-- ==== Sys2Proof/Word.lean ====
section
/-! DEFINITION. The two word sizes of the 65C02: an 8-bit byte and a 16-bit address (00_scope.md R7, R9). -/

namespace Sys2Proof

/-- A byte: A, X, Y, S, an operand byte, a memory byte (R7). -/
abbrev Byte := BitVec 8

/-- A 16-bit address: PC, an effective address, a vector (R7, R50). -/
abbrev Addr := BitVec 16

end Sys2Proof
end

