-- ==== Sys2Proof/Config.lean ====
section
/-! DEFINITION. The named parameters of the spec (00_scope.md R8) as plain data, and the free values: opaque constants
that stand for what the spec calls a draw. A parameter record is held in State and changed by no step (log 18). -/

namespace Sys2Proof

/-- What answers an address of MEM_MAP (R8, 20_memory.md R62). -/
inductive RegionKind where
  | ram
  | rom
  | io
  | unmapped
deriving DecidableEq, Repr

/-- One range of MEM_MAP, both ends included. -/
structure Region where
  first : Addr
  last : Addr
  kind : RegionKind
deriving DecidableEq, Repr

/-- B_MODEL: whether B is a stored bit of P or exists only in pushed bytes (R8, 10_state.md R30). -/
inductive BModel where
  | stored
  | phantom
deriving DecidableEq, Repr

/-- The three lengths an unused opcode may have (30_encoding.md R90). -/
inductive NopLen where
  | one
  | two
  | three
deriving DecidableEq, Repr

/-- One entry of NOP_LEN (R8, R91). An unused opcode that no entry names is one byte long. -/
structure NopEntry where
  opcode : Byte
  len : NopLen
deriving DecidableEq, Repr

/-- RESET_I: the I flag after reset, a bit or unspecified (R8, 10_state.md R41). -/
inductive ResetI where
  | fixed (i : Bool)
  | unspecified
deriving DecidableEq, Repr

/-- The parameters of R8 that are data. The first region that holds an address decides its kind; an address in no
region is RAM, the default of MEM_MAP. -/
structure Config where
  memMap : List Region
  bit5Pushed : Bool
  bModel : BModel
  nopLen : List NopEntry
  soConnected : Bool
  resetI : ResetI
deriving DecidableEq, Repr

/-- What a one-byte read is for, in the order R65 gives the accesses of one step. It tells the reads of one step apart,
so that each has a draw of its own (93_implementation_defined.md U10 "per read"). -/
inductive BusRead where
  | opcode
  | op1
  | op2
  | pointerLow
  | pointerHigh
  | data
  | pull1
  | pull2
  | pull3
  | vectorLow
  | vectorHigh
deriving DecidableEq, Repr

/-- The two operations that obey D (47_arithmetic.md R198). -/
inductive DecOp where
  | add
  | sub
deriving DecidableEq, Repr

/-- The registers that a reset leaves unspecified (10_state.md R41). -/
inductive ResetReg where
  | a
  | x
  | y
  | s
deriving DecidableEq, Repr

/-- The flags that a reset leaves unspecified (10_state.md R41); `i` counts only where RESET_I is unspecified. -/
inductive ResetFlag where
  | n
  | v
  | b
  | i
  | z
  | c
deriving DecidableEq, Repr

/-- Free value: the byte that an unmapped or device address answers (R62, U10, U12). DESIGN CHOICE, log 8, safe. -/
opaque Config.busByte : Nat → BusRead → Addr → Byte

/-- Free value DEC_V: V after a decimal `ADC` or `SBC` of (A, M, carry in) on valid BCD (R193). DESIGN CHOICE, log 14, safe. -/
opaque Config.decV : Nat → DecOp → Byte → Byte → Bool → Bool

/-- Free value DEC_INVALID: the result, carry and V of a decimal `ADC` or `SBC` of (A, M, carry in) where an operand is not
valid BCD (R197). DESIGN CHOICE, log 15, safe. -/
opaque Config.decInvalid : Nat → DecOp → Byte → Byte → Bool → Byte × Bool × Bool

/-- Free value: a register after a reset that a step takes, from what it held before (R41, R282). DESIGN CHOICE, log 17, safe. -/
opaque Config.resetByte : Nat → ResetReg → Byte → Byte

/-- Free value: a flag after a reset that a step takes, from what it held before (R41, R282). DESIGN CHOICE, log 17, safe. -/
opaque Config.resetFlag : Nat → ResetFlag → Bool → Bool

end Sys2Proof
end

