-- ==== Sys2Proof/Syntax.lean ====
section
/-! DEFINITION. The instructions: one constructor for each of the 256 rows of spec/opcode_table.json, which is the opcode map
of 30_encoding.md R85. A constructor holds the operand of its row as R84 assembles it: a byte for val8, addr8, addr8i and
disp8, a 16-bit address for addr16 and addr16i. The 78 unused opcodes hold none: their operand bytes are skipped and their
values are irrelevant (49_status_system.md R231; log 12). The rows with an operand stand first, then the one-byte rows, then the
unused opcodes, each group in the table's order (Lean's compiler takes a field only in the first 244 constructors). -/

namespace Sys2Proof

/-- An instruction of the 65C02: mnemonic, address mode and operand. -/
inductive Instr where
  /-- $01: `ORA (addr8i,X)` (R181). -/
  | oraIndX (addr : Byte)
  /-- $04: `TSB addr8` (R188). -/
  | tsbZp (addr : Byte)
  /-- $05: `ORA addr8` (R181). -/
  | oraZp (addr : Byte)
  /-- $06: `ASL addr8` (R170). -/
  | aslZp (addr : Byte)
  /-- $09: `ORA #val8` (R181). -/
  | oraImm (val : Byte)
  /-- $0C: `TSB addr16` (R188). -/
  | tsbAbs (addr : Addr)
  /-- $0D: `ORA addr16` (R181). -/
  | oraAbs (addr : Addr)
  /-- $0E: `ASL addr16` (R170). -/
  | aslAbs (addr : Addr)
  /-- $10: `BPL disp8` (R212). -/
  | bpl (disp : Byte)
  /-- $11: `ORA (addr8i),Y` (R181). -/
  | oraIndY (addr : Byte)
  /-- $12: `ORA (addr8i)` (R181). -/
  | oraInd (addr : Byte)
  /-- $14: `TRB addr8` (R187). -/
  | trbZp (addr : Byte)
  /-- $15: `ORA addr8,X` (R181). -/
  | oraZpX (addr : Byte)
  /-- $16: `ASL addr8,X` (R170). -/
  | aslZpX (addr : Byte)
  /-- $19: `ORA addr16,Y` (R181). -/
  | oraAbsY (addr : Addr)
  /-- $1C: `TRB addr16` (R187). -/
  | trbAbs (addr : Addr)
  /-- $1D: `ORA addr16,X` (R181). -/
  | oraAbsX (addr : Addr)
  /-- $1E: `ASL addr16,X` (R170). -/
  | aslAbsX (addr : Addr)
  /-- $20: `JSR addr16` (R203). -/
  | jsr (addr : Addr)
  /-- $21: `AND (addr8i,X)` (R180). -/
  | andIndX (addr : Byte)
  /-- $24: `BIT addr8` (R183). -/
  | bitZp (addr : Byte)
  /-- $25: `AND addr8` (R180). -/
  | andZp (addr : Byte)
  /-- $26: `ROL addr8` (R172). -/
  | rolZp (addr : Byte)
  /-- $29: `AND #val8` (R180). -/
  | andImm (val : Byte)
  /-- $2C: `BIT addr16` (R183). -/
  | bitAbs (addr : Addr)
  /-- $2D: `AND addr16` (R180). -/
  | andAbs (addr : Addr)
  /-- $2E: `ROL addr16` (R172). -/
  | rolAbs (addr : Addr)
  /-- $30: `BMI disp8` (R211). -/
  | bmi (disp : Byte)
  /-- $31: `AND (addr8i),Y` (R180). -/
  | andIndY (addr : Byte)
  /-- $32: `AND (addr8i)` (R180). -/
  | andInd (addr : Byte)
  /-- $34: `BIT addr8,X` (R183). -/
  | bitZpX (addr : Byte)
  /-- $35: `AND addr8,X` (R180). -/
  | andZpX (addr : Byte)
  /-- $36: `ROL addr8,X` (R172). -/
  | rolZpX (addr : Byte)
  /-- $39: `AND addr16,Y` (R180). -/
  | andAbsY (addr : Addr)
  /-- $3C: `BIT addr16,X` (R183). -/
  | bitAbsX (addr : Addr)
  /-- $3D: `AND addr16,X` (R180). -/
  | andAbsX (addr : Addr)
  /-- $3E: `ROL addr16,X` (R172). -/
  | rolAbsX (addr : Addr)
  /-- $41: `EOR (addr8i,X)` (R182). -/
  | eorIndX (addr : Byte)
  /-- $45: `EOR addr8` (R182). -/
  | eorZp (addr : Byte)
  /-- $46: `LSR addr8` (R171). -/
  | lsrZp (addr : Byte)
  /-- $49: `EOR #val8` (R182). -/
  | eorImm (val : Byte)
  /-- $4C: `JMP addr16` (R200). -/
  | jmpAbs (addr : Addr)
  /-- $4D: `EOR addr16` (R182). -/
  | eorAbs (addr : Addr)
  /-- $4E: `LSR addr16` (R171). -/
  | lsrAbs (addr : Addr)
  /-- $50: `BVC disp8` (R213). -/
  | bvc (disp : Byte)
  /-- $51: `EOR (addr8i),Y` (R182). -/
  | eorIndY (addr : Byte)
  /-- $52: `EOR (addr8i)` (R182). -/
  | eorInd (addr : Byte)
  /-- $55: `EOR addr8,X` (R182). -/
  | eorZpX (addr : Byte)
  /-- $56: `LSR addr8,X` (R171). -/
  | lsrZpX (addr : Byte)
  /-- $59: `EOR addr16,Y` (R182). -/
  | eorAbsY (addr : Addr)
  /-- $5D: `EOR addr16,X` (R182). -/
  | eorAbsX (addr : Addr)
  /-- $5E: `LSR addr16,X` (R171). -/
  | lsrAbsX (addr : Addr)
  /-- $61: `ADC (addr8i,X)` (R190). -/
  | adcIndX (addr : Byte)
  /-- $64: `STZ addr8` (R136). -/
  | stzZp (addr : Byte)
  /-- $65: `ADC addr8` (R190). -/
  | adcZp (addr : Byte)
  /-- $66: `ROR addr8` (R173). -/
  | rorZp (addr : Byte)
  /-- $69: `ADC #val8` (R190). -/
  | adcImm (val : Byte)
  /-- $6C: `JMP (addr16i)` (R201). -/
  | jmpInd (addr : Addr)
  /-- $6D: `ADC addr16` (R190). -/
  | adcAbs (addr : Addr)
  /-- $6E: `ROR addr16` (R173). -/
  | rorAbs (addr : Addr)
  /-- $70: `BVS disp8` (R214). -/
  | bvs (disp : Byte)
  /-- $71: `ADC (addr8i),Y` (R190). -/
  | adcIndY (addr : Byte)
  /-- $72: `ADC (addr8i)` (R190). -/
  | adcInd (addr : Byte)
  /-- $74: `STZ addr8,X` (R136). -/
  | stzZpX (addr : Byte)
  /-- $75: `ADC addr8,X` (R190). -/
  | adcZpX (addr : Byte)
  /-- $76: `ROR addr8,X` (R173). -/
  | rorZpX (addr : Byte)
  /-- $79: `ADC addr16,Y` (R190). -/
  | adcAbsY (addr : Addr)
  /-- $7C: `JMP (addr16i,X)` (R202). -/
  | jmpIndX (addr : Addr)
  /-- $7D: `ADC addr16,X` (R190). -/
  | adcAbsX (addr : Addr)
  /-- $7E: `ROR addr16,X` (R173). -/
  | rorAbsX (addr : Addr)
  /-- $80: `BRA disp8` (R215). -/
  | bra (disp : Byte)
  /-- $81: `STA (addr8i,X)` (R133). -/
  | staIndX (addr : Byte)
  /-- $84: `STY addr8` (R135). -/
  | styZp (addr : Byte)
  /-- $85: `STA addr8` (R133). -/
  | staZp (addr : Byte)
  /-- $86: `STX addr8` (R134). -/
  | stxZp (addr : Byte)
  /-- $89: `BIT #val8` (R183). -/
  | bitImm (val : Byte)
  /-- $8C: `STY addr16` (R135). -/
  | styAbs (addr : Addr)
  /-- $8D: `STA addr16` (R133). -/
  | staAbs (addr : Addr)
  /-- $8E: `STX addr16` (R134). -/
  | stxAbs (addr : Addr)
  /-- $90: `BCC disp8` (R207). -/
  | bcc (disp : Byte)
  /-- $91: `STA (addr8i),Y` (R133). -/
  | staIndY (addr : Byte)
  /-- $92: `STA (addr8i)` (R133). -/
  | staInd (addr : Byte)
  /-- $94: `STY addr8,X` (R135). -/
  | styZpX (addr : Byte)
  /-- $95: `STA addr8,X` (R133). -/
  | staZpX (addr : Byte)
  /-- $96: `STX addr8,Y` (R134). -/
  | stxZpY (addr : Byte)
  /-- $99: `STA addr16,Y` (R133). -/
  | staAbsY (addr : Addr)
  /-- $9C: `STZ addr16` (R136). -/
  | stzAbs (addr : Addr)
  /-- $9D: `STA addr16,X` (R133). -/
  | staAbsX (addr : Addr)
  /-- $9E: `STZ addr16,X` (R136). -/
  | stzAbsX (addr : Addr)
  /-- $A0: `LDY #val8` (R132). -/
  | ldyImm (val : Byte)
  /-- $A1: `LDA (addr8i,X)` (R130). -/
  | ldaIndX (addr : Byte)
  /-- $A2: `LDX #val8` (R131). -/
  | ldxImm (val : Byte)
  /-- $A4: `LDY addr8` (R132). -/
  | ldyZp (addr : Byte)
  /-- $A5: `LDA addr8` (R130). -/
  | ldaZp (addr : Byte)
  /-- $A6: `LDX addr8` (R131). -/
  | ldxZp (addr : Byte)
  /-- $A9: `LDA #val8` (R130). -/
  | ldaImm (val : Byte)
  /-- $AC: `LDY addr16` (R132). -/
  | ldyAbs (addr : Addr)
  /-- $AD: `LDA addr16` (R130). -/
  | ldaAbs (addr : Addr)
  /-- $AE: `LDX addr16` (R131). -/
  | ldxAbs (addr : Addr)
  /-- $B0: `BCS disp8` (R208). -/
  | bcs (disp : Byte)
  /-- $B1: `LDA (addr8i),Y` (R130). -/
  | ldaIndY (addr : Byte)
  /-- $B2: `LDA (addr8i)` (R130). -/
  | ldaInd (addr : Byte)
  /-- $B4: `LDY addr8,X` (R132). -/
  | ldyZpX (addr : Byte)
  /-- $B5: `LDA addr8,X` (R130). -/
  | ldaZpX (addr : Byte)
  /-- $B6: `LDX addr8,Y` (R131). -/
  | ldxZpY (addr : Byte)
  /-- $B9: `LDA addr16,Y` (R130). -/
  | ldaAbsY (addr : Addr)
  /-- $BC: `LDY addr16,X` (R132). -/
  | ldyAbsX (addr : Addr)
  /-- $BD: `LDA addr16,X` (R130). -/
  | ldaAbsX (addr : Addr)
  /-- $BE: `LDX addr16,Y` (R131). -/
  | ldxAbsY (addr : Addr)
  /-- $C0: `CPY #val8` (R186). -/
  | cpyImm (val : Byte)
  /-- $C1: `CMP (addr8i,X)` (R184). -/
  | cmpIndX (addr : Byte)
  /-- $C4: `CPY addr8` (R186). -/
  | cpyZp (addr : Byte)
  /-- $C5: `CMP addr8` (R184). -/
  | cmpZp (addr : Byte)
  /-- $C6: `DEC addr8` (R161). -/
  | decZp (addr : Byte)
  /-- $C9: `CMP #val8` (R184). -/
  | cmpImm (val : Byte)
  /-- $CC: `CPY addr16` (R186). -/
  | cpyAbs (addr : Addr)
  /-- $CD: `CMP addr16` (R184). -/
  | cmpAbs (addr : Addr)
  /-- $CE: `DEC addr16` (R161). -/
  | decAbs (addr : Addr)
  /-- $D0: `BNE disp8` (R210). -/
  | bne (disp : Byte)
  /-- $D1: `CMP (addr8i),Y` (R184). -/
  | cmpIndY (addr : Byte)
  /-- $D2: `CMP (addr8i)` (R184). -/
  | cmpInd (addr : Byte)
  /-- $D5: `CMP addr8,X` (R184). -/
  | cmpZpX (addr : Byte)
  /-- $D6: `DEC addr8,X` (R161). -/
  | decZpX (addr : Byte)
  /-- $D9: `CMP addr16,Y` (R184). -/
  | cmpAbsY (addr : Addr)
  /-- $DD: `CMP addr16,X` (R184). -/
  | cmpAbsX (addr : Addr)
  /-- $DE: `DEC addr16,X` (R161). -/
  | decAbsX (addr : Addr)
  /-- $E0: `CPX #val8` (R185). -/
  | cpxImm (val : Byte)
  /-- $E1: `SBC (addr8i,X)` (R194). -/
  | sbcIndX (addr : Byte)
  /-- $E4: `CPX addr8` (R185). -/
  | cpxZp (addr : Byte)
  /-- $E5: `SBC addr8` (R194). -/
  | sbcZp (addr : Byte)
  /-- $E6: `INC addr8` (R160). -/
  | incZp (addr : Byte)
  /-- $E9: `SBC #val8` (R194). -/
  | sbcImm (val : Byte)
  /-- $EC: `CPX addr16` (R185). -/
  | cpxAbs (addr : Addr)
  /-- $ED: `SBC addr16` (R194). -/
  | sbcAbs (addr : Addr)
  /-- $EE: `INC addr16` (R160). -/
  | incAbs (addr : Addr)
  /-- $F0: `BEQ disp8` (R209). -/
  | beq (disp : Byte)
  /-- $F1: `SBC (addr8i),Y` (R194). -/
  | sbcIndY (addr : Byte)
  /-- $F2: `SBC (addr8i)` (R194). -/
  | sbcInd (addr : Byte)
  /-- $F5: `SBC addr8,X` (R194). -/
  | sbcZpX (addr : Byte)
  /-- $F6: `INC addr8,X` (R160). -/
  | incZpX (addr : Byte)
  /-- $F9: `SBC addr16,Y` (R194). -/
  | sbcAbsY (addr : Addr)
  /-- $FD: `SBC addr16,X` (R194). -/
  | sbcAbsX (addr : Addr)
  /-- $FE: `INC addr16,X` (R160). -/
  | incAbsX (addr : Addr)
  /-- $00: `BRK` (R228). -/
  | brk
  /-- $08: `PHP` (R154). -/
  | php
  /-- $0A: `ASL A` (R170). -/
  | aslA
  /-- $18: `CLC` (R220). -/
  | clc
  /-- $1A: `INC A` (R160). -/
  | incA
  /-- $28: `PLP` (R158). -/
  | plp
  /-- $2A: `ROL A` (R172). -/
  | rolA
  /-- $38: `SEC` (R224). -/
  | sec
  /-- $3A: `DEC A` (R161). -/
  | decA
  /-- $40: `RTI` (R205). -/
  | rti
  /-- $48: `PHA` (R153). -/
  | pha
  /-- $4A: `LSR A` (R171). -/
  | lsrA
  /-- $58: `CLI` (R222). -/
  | cli
  /-- $5A: `PHY` (R156). -/
  | phy
  /-- $60: `RTS` (R204). -/
  | rts
  /-- $68: `PLA` (R157). -/
  | pla
  /-- $6A: `ROR A` (R173). -/
  | rorA
  /-- $78: `SEI` (R226). -/
  | sei
  /-- $7A: `PLY` (R149). -/
  | ply
  /-- $88: `DEY` (R165). -/
  | dey
  /-- $8A: `TXA` (R142). -/
  | txa
  /-- $98: `TYA` (R143). -/
  | tya
  /-- $9A: `TXS` (R145). -/
  | txs
  /-- $A8: `TAY` (R141). -/
  | tay
  /-- $AA: `TAX` (R140). -/
  | tax
  /-- $B8: `CLV` (R223). -/
  | clv
  /-- $BA: `TSX` (R144). -/
  | tsx
  /-- $C8: `INY` (R163). -/
  | iny
  /-- $CA: `DEX` (R164). -/
  | dex
  /-- $D8: `CLD` (R221). -/
  | cld
  /-- $DA: `PHX` (R155). -/
  | phx
  /-- $E8: `INX` (R162). -/
  | inx
  /-- $EA: `NOP` (R227). -/
  | nop
  /-- $F8: `SED` (R225). -/
  | sed
  /-- $FA: `PLX` (R159). -/
  | plx
  /-- $02: `NOP*` (R231). -/
  | nop02
  /-- $03: `NOP*` (R231). -/
  | nop03
  /-- $07: `NOP*` (R231). -/
  | nop07
  /-- $0B: `NOP*` (R231). -/
  | nop0B
  /-- $0F: `NOP*` (R231). -/
  | nop0F
  /-- $13: `NOP*` (R231). -/
  | nop13
  /-- $17: `NOP*` (R231). -/
  | nop17
  /-- $1B: `NOP*` (R231). -/
  | nop1B
  /-- $1F: `NOP*` (R231). -/
  | nop1F
  /-- $22: `NOP*` (R231). -/
  | nop22
  /-- $23: `NOP*` (R231). -/
  | nop23
  /-- $27: `NOP*` (R231). -/
  | nop27
  /-- $2B: `NOP*` (R231). -/
  | nop2B
  /-- $2F: `NOP*` (R231). -/
  | nop2F
  /-- $33: `NOP*` (R231). -/
  | nop33
  /-- $37: `NOP*` (R231). -/
  | nop37
  /-- $3B: `NOP*` (R231). -/
  | nop3B
  /-- $3F: `NOP*` (R231). -/
  | nop3F
  /-- $42: `NOP*` (R231). -/
  | nop42
  /-- $43: `NOP*` (R231). -/
  | nop43
  /-- $44: `NOP*` (R231). -/
  | nop44
  /-- $47: `NOP*` (R231). -/
  | nop47
  /-- $4B: `NOP*` (R231). -/
  | nop4B
  /-- $4F: `NOP*` (R231). -/
  | nop4F
  /-- $53: `NOP*` (R231). -/
  | nop53
  /-- $54: `NOP*` (R231). -/
  | nop54
  /-- $57: `NOP*` (R231). -/
  | nop57
  /-- $5B: `NOP*` (R231). -/
  | nop5B
  /-- $5C: `NOP*` (R231). -/
  | nop5C
  /-- $5F: `NOP*` (R231). -/
  | nop5F
  /-- $62: `NOP*` (R231). -/
  | nop62
  /-- $63: `NOP*` (R231). -/
  | nop63
  /-- $67: `NOP*` (R231). -/
  | nop67
  /-- $6B: `NOP*` (R231). -/
  | nop6B
  /-- $6F: `NOP*` (R231). -/
  | nop6F
  /-- $73: `NOP*` (R231). -/
  | nop73
  /-- $77: `NOP*` (R231). -/
  | nop77
  /-- $7B: `NOP*` (R231). -/
  | nop7B
  /-- $7F: `NOP*` (R231). -/
  | nop7F
  /-- $82: `NOP*` (R231). -/
  | nop82
  /-- $83: `NOP*` (R231). -/
  | nop83
  /-- $87: `NOP*` (R231). -/
  | nop87
  /-- $8B: `NOP*` (R231). -/
  | nop8B
  /-- $8F: `NOP*` (R231). -/
  | nop8F
  /-- $93: `NOP*` (R231). -/
  | nop93
  /-- $97: `NOP*` (R231). -/
  | nop97
  /-- $9B: `NOP*` (R231). -/
  | nop9B
  /-- $9F: `NOP*` (R231). -/
  | nop9F
  /-- $A3: `NOP*` (R231). -/
  | nopA3
  /-- $A7: `NOP*` (R231). -/
  | nopA7
  /-- $AB: `NOP*` (R231). -/
  | nopAB
  /-- $AF: `NOP*` (R231). -/
  | nopAF
  /-- $B3: `NOP*` (R231). -/
  | nopB3
  /-- $B7: `NOP*` (R231). -/
  | nopB7
  /-- $BB: `NOP*` (R231). -/
  | nopBB
  /-- $BF: `NOP*` (R231). -/
  | nopBF
  /-- $C2: `NOP*` (R231). -/
  | nopC2
  /-- $C3: `NOP*` (R231). -/
  | nopC3
  /-- $C7: `NOP*` (R231). -/
  | nopC7
  /-- $CB: `NOP*` (R231). -/
  | nopCB
  /-- $CF: `NOP*` (R231). -/
  | nopCF
  /-- $D3: `NOP*` (R231). -/
  | nopD3
  /-- $D4: `NOP*` (R231). -/
  | nopD4
  /-- $D7: `NOP*` (R231). -/
  | nopD7
  /-- $DB: `NOP*` (R231). -/
  | nopDB
  /-- $DC: `NOP*` (R231). -/
  | nopDC
  /-- $DF: `NOP*` (R231). -/
  | nopDF
  /-- $E2: `NOP*` (R231). -/
  | nopE2
  /-- $E3: `NOP*` (R231). -/
  | nopE3
  /-- $E7: `NOP*` (R231). -/
  | nopE7
  /-- $EB: `NOP*` (R231). -/
  | nopEB
  /-- $EF: `NOP*` (R231). -/
  | nopEF
  /-- $F3: `NOP*` (R231). -/
  | nopF3
  /-- $F4: `NOP*` (R231). -/
  | nopF4
  /-- $F7: `NOP*` (R231). -/
  | nopF7
  /-- $FB: `NOP*` (R231). -/
  | nopFB
  /-- $FC: `NOP*` (R231). -/
  | nopFC
  /-- $FF: `NOP*` (R231). -/
  | nopFF
deriving DecidableEq, Repr

/-- The 64 mnemonics (30_encoding.md R86) and one name for the unused opcodes (`NOP*` of the table). -/
inductive Mnemonic where
  | adc
  | and
  | asl
  | bcc
  | bcs
  | beq
  | bit
  | bmi
  | bne
  | bpl
  | bra
  | brk
  | bvc
  | bvs
  | clc
  | cld
  | cli
  | clv
  | cmp
  | cpx
  | cpy
  | dec
  | dex
  | dey
  | eor
  | inc
  | inx
  | iny
  | jmp
  | jsr
  | lda
  | ldx
  | ldy
  | lsr
  | nop
  | ora
  | pha
  | php
  | phx
  | phy
  | pla
  | plp
  | plx
  | ply
  | rol
  | ror
  | rti
  | rts
  | sbc
  | sec
  | sed
  | sei
  | sta
  | stx
  | sty
  | stz
  | tax
  | tay
  | trb
  | tsb
  | tsx
  | txa
  | txs
  | tya
  | unused
deriving DecidableEq, Repr

/-- The mnemonic of an instruction (R86). -/
def Instr.mnemonic (i : Instr) : Mnemonic :=
  match i with
  | .adcIndX _ => .adc
  | .adcZp _ => .adc
  | .adcImm _ => .adc
  | .adcAbs _ => .adc
  | .adcIndY _ => .adc
  | .adcInd _ => .adc
  | .adcZpX _ => .adc
  | .adcAbsY _ => .adc
  | .adcAbsX _ => .adc
  | .andIndX _ => .and
  | .andZp _ => .and
  | .andImm _ => .and
  | .andAbs _ => .and
  | .andIndY _ => .and
  | .andInd _ => .and
  | .andZpX _ => .and
  | .andAbsY _ => .and
  | .andAbsX _ => .and
  | .aslZp _ => .asl
  | .aslA => .asl
  | .aslAbs _ => .asl
  | .aslZpX _ => .asl
  | .aslAbsX _ => .asl
  | .bcc _ => .bcc
  | .bcs _ => .bcs
  | .beq _ => .beq
  | .bitZp _ => .bit
  | .bitAbs _ => .bit
  | .bitZpX _ => .bit
  | .bitAbsX _ => .bit
  | .bitImm _ => .bit
  | .bmi _ => .bmi
  | .bne _ => .bne
  | .bpl _ => .bpl
  | .bra _ => .bra
  | .brk => .brk
  | .bvc _ => .bvc
  | .bvs _ => .bvs
  | .clc => .clc
  | .cld => .cld
  | .cli => .cli
  | .clv => .clv
  | .cmpIndX _ => .cmp
  | .cmpZp _ => .cmp
  | .cmpImm _ => .cmp
  | .cmpAbs _ => .cmp
  | .cmpIndY _ => .cmp
  | .cmpInd _ => .cmp
  | .cmpZpX _ => .cmp
  | .cmpAbsY _ => .cmp
  | .cmpAbsX _ => .cmp
  | .cpxImm _ => .cpx
  | .cpxZp _ => .cpx
  | .cpxAbs _ => .cpx
  | .cpyImm _ => .cpy
  | .cpyZp _ => .cpy
  | .cpyAbs _ => .cpy
  | .decA => .dec
  | .decZp _ => .dec
  | .decAbs _ => .dec
  | .decZpX _ => .dec
  | .decAbsX _ => .dec
  | .dex => .dex
  | .dey => .dey
  | .eorIndX _ => .eor
  | .eorZp _ => .eor
  | .eorImm _ => .eor
  | .eorAbs _ => .eor
  | .eorIndY _ => .eor
  | .eorInd _ => .eor
  | .eorZpX _ => .eor
  | .eorAbsY _ => .eor
  | .eorAbsX _ => .eor
  | .incA => .inc
  | .incZp _ => .inc
  | .incAbs _ => .inc
  | .incZpX _ => .inc
  | .incAbsX _ => .inc
  | .inx => .inx
  | .iny => .iny
  | .jmpAbs _ => .jmp
  | .jmpInd _ => .jmp
  | .jmpIndX _ => .jmp
  | .jsr _ => .jsr
  | .ldaIndX _ => .lda
  | .ldaZp _ => .lda
  | .ldaImm _ => .lda
  | .ldaAbs _ => .lda
  | .ldaIndY _ => .lda
  | .ldaInd _ => .lda
  | .ldaZpX _ => .lda
  | .ldaAbsY _ => .lda
  | .ldaAbsX _ => .lda
  | .ldxImm _ => .ldx
  | .ldxZp _ => .ldx
  | .ldxAbs _ => .ldx
  | .ldxZpY _ => .ldx
  | .ldxAbsY _ => .ldx
  | .ldyImm _ => .ldy
  | .ldyZp _ => .ldy
  | .ldyAbs _ => .ldy
  | .ldyZpX _ => .ldy
  | .ldyAbsX _ => .ldy
  | .lsrZp _ => .lsr
  | .lsrA => .lsr
  | .lsrAbs _ => .lsr
  | .lsrZpX _ => .lsr
  | .lsrAbsX _ => .lsr
  | .nop => .nop
  | .nop02 => .unused
  | .nop03 => .unused
  | .nop07 => .unused
  | .nop0B => .unused
  | .nop0F => .unused
  | .nop13 => .unused
  | .nop17 => .unused
  | .nop1B => .unused
  | .nop1F => .unused
  | .nop22 => .unused
  | .nop23 => .unused
  | .nop27 => .unused
  | .nop2B => .unused
  | .nop2F => .unused
  | .nop33 => .unused
  | .nop37 => .unused
  | .nop3B => .unused
  | .nop3F => .unused
  | .nop42 => .unused
  | .nop43 => .unused
  | .nop44 => .unused
  | .nop47 => .unused
  | .nop4B => .unused
  | .nop4F => .unused
  | .nop53 => .unused
  | .nop54 => .unused
  | .nop57 => .unused
  | .nop5B => .unused
  | .nop5C => .unused
  | .nop5F => .unused
  | .nop62 => .unused
  | .nop63 => .unused
  | .nop67 => .unused
  | .nop6B => .unused
  | .nop6F => .unused
  | .nop73 => .unused
  | .nop77 => .unused
  | .nop7B => .unused
  | .nop7F => .unused
  | .nop82 => .unused
  | .nop83 => .unused
  | .nop87 => .unused
  | .nop8B => .unused
  | .nop8F => .unused
  | .nop93 => .unused
  | .nop97 => .unused
  | .nop9B => .unused
  | .nop9F => .unused
  | .nopA3 => .unused
  | .nopA7 => .unused
  | .nopAB => .unused
  | .nopAF => .unused
  | .nopB3 => .unused
  | .nopB7 => .unused
  | .nopBB => .unused
  | .nopBF => .unused
  | .nopC2 => .unused
  | .nopC3 => .unused
  | .nopC7 => .unused
  | .nopCB => .unused
  | .nopCF => .unused
  | .nopD3 => .unused
  | .nopD4 => .unused
  | .nopD7 => .unused
  | .nopDB => .unused
  | .nopDC => .unused
  | .nopDF => .unused
  | .nopE2 => .unused
  | .nopE3 => .unused
  | .nopE7 => .unused
  | .nopEB => .unused
  | .nopEF => .unused
  | .nopF3 => .unused
  | .nopF4 => .unused
  | .nopF7 => .unused
  | .nopFB => .unused
  | .nopFC => .unused
  | .nopFF => .unused
  | .oraIndX _ => .ora
  | .oraZp _ => .ora
  | .oraImm _ => .ora
  | .oraAbs _ => .ora
  | .oraIndY _ => .ora
  | .oraInd _ => .ora
  | .oraZpX _ => .ora
  | .oraAbsY _ => .ora
  | .oraAbsX _ => .ora
  | .pha => .pha
  | .php => .php
  | .phx => .phx
  | .phy => .phy
  | .pla => .pla
  | .plp => .plp
  | .plx => .plx
  | .ply => .ply
  | .rolZp _ => .rol
  | .rolA => .rol
  | .rolAbs _ => .rol
  | .rolZpX _ => .rol
  | .rolAbsX _ => .rol
  | .rorZp _ => .ror
  | .rorA => .ror
  | .rorAbs _ => .ror
  | .rorZpX _ => .ror
  | .rorAbsX _ => .ror
  | .rti => .rti
  | .rts => .rts
  | .sbcIndX _ => .sbc
  | .sbcZp _ => .sbc
  | .sbcImm _ => .sbc
  | .sbcAbs _ => .sbc
  | .sbcIndY _ => .sbc
  | .sbcInd _ => .sbc
  | .sbcZpX _ => .sbc
  | .sbcAbsY _ => .sbc
  | .sbcAbsX _ => .sbc
  | .sec => .sec
  | .sed => .sed
  | .sei => .sei
  | .staIndX _ => .sta
  | .staZp _ => .sta
  | .staAbs _ => .sta
  | .staIndY _ => .sta
  | .staInd _ => .sta
  | .staZpX _ => .sta
  | .staAbsY _ => .sta
  | .staAbsX _ => .sta
  | .stxZp _ => .stx
  | .stxAbs _ => .stx
  | .stxZpY _ => .stx
  | .styZp _ => .sty
  | .styAbs _ => .sty
  | .styZpX _ => .sty
  | .stzZp _ => .stz
  | .stzZpX _ => .stz
  | .stzAbs _ => .stz
  | .stzAbsX _ => .stz
  | .tax => .tax
  | .tay => .tay
  | .trbZp _ => .trb
  | .trbAbs _ => .trb
  | .tsbZp _ => .tsb
  | .tsbAbs _ => .tsb
  | .tsx => .tsx
  | .txa => .txa
  | .txs => .txs
  | .tya => .tya

end Sys2Proof
end

