-- ==== Sys2Proof/WellFormed.lean ====
section
/-! DEFINITION. Which instructions and which parameter records are well formed. -/

namespace Sys2Proof

/-- The unused opcodes of two and of three bytes under the default of NOP_LEN (30_encoding.md R91), without the 64 whose low
nibble is 3, 7, B or F. -/
def unusedIrregular : List Byte :=
  [0x02, 0x22, 0x42, 0x62, 0x82, 0xC2, 0xE2, 0x44, 0x54, 0xD4, 0xF4, 0x5C, 0xDC, 0xFC]

/-- Whether an opcode value is one of the 78 unused ones (R90, R91). -/
def isUnusedOpcode (op : Byte) : Bool :=
  op.toNat % 4 == 3 || unusedIrregular.contains op

/-- Every instruction term is well formed: the constructors pair a mnemonic only with the modes it has (40_address_modes.md
R117), and "Operand values are never reserved" (30_encoding.md R92). -/
abbrev Instr.WellFormed (_i : Instr) : Prop := True

/-- A region of MEM_MAP holds at least one address. -/
abbrev Region.WellFormed (r : Region) : Prop := r.first.toNat ≤ r.last.toNat

/-- A parameter record is well formed when no region is empty and NOP_LEN speaks only of unused opcodes, each once
(00_scope.md R8). -/
abbrev Config.WellFormed (cfg : Config) : Prop :=
  (∀ r ∈ cfg.memMap, r.WellFormed) ∧
  (∀ e ∈ cfg.nopLen, isUnusedOpcode e.opcode = true) ∧
  (cfg.nopLen.map NopEntry.opcode).Nodup

end Sys2Proof
end

