-- ==== Sys2Proof/Decode.lean ====
section
/-! DEFINITION. The decoder (30_encoding.md R80 to R91), total on any bytes, and the encoder beside it. The opcode map is
written as R85 prints it, sixteen rows of sixteen; the format of an opcode (R80, R81) is part of its entry, so the length of
an instruction is known from its first byte alone (R82). -/

namespace Sys2Proof

/-- The 16-bit value whose low byte is `lo` and high byte `hi` (20_memory.md R52: `hi ## lo`). -/
def word (lo hi : Byte) : Addr := hi ++ lo

/-- `w[7:0]`. -/
def loByte (w : Addr) : Byte := w.extractLsb' 0 8

/-- `w[15:8]`. -/
def hiByte (w : Addr) : Byte := w.extractLsb' 8 8

/-- An entry of the opcode map: the format of the opcode and the instruction its operand makes (R80, R81). -/
inductive OpcodeEntry where
  /-- Format F1, no operand byte. -/
  | f1 (i : Instr)
  /-- Format F2, one operand byte. -/
  | f2 (build : Byte → Instr)
  /-- Format F3, a 16-bit operand, low byte first. -/
  | f3 (build : Addr → Instr)
  /-- An unused opcode: a no-operation whose length is `NOP_LEN` (R90). -/
  | unused (i : Instr)

/-- Row 0x of the opcode map of R85, by low nibble. -/
def opcodeRow0 (low : Nat) : OpcodeEntry :=
  match low with
  | 0 => .f1 .brk
  | 1 => .f2 .oraIndX
  | 2 => .unused .nop02
  | 3 => .unused .nop03
  | 4 => .f2 .tsbZp
  | 5 => .f2 .oraZp
  | 6 => .f2 .aslZp
  | 7 => .unused .nop07
  | 8 => .f1 .php
  | 9 => .f2 .oraImm
  | 10 => .f1 .aslA
  | 11 => .unused .nop0B
  | 12 => .f3 .tsbAbs
  | 13 => .f3 .oraAbs
  | 14 => .f3 .aslAbs
  | _ => .unused .nop0F

/-- Row 1x of the opcode map of R85, by low nibble. -/
def opcodeRow1 (low : Nat) : OpcodeEntry :=
  match low with
  | 0 => .f2 .bpl
  | 1 => .f2 .oraIndY
  | 2 => .f2 .oraInd
  | 3 => .unused .nop13
  | 4 => .f2 .trbZp
  | 5 => .f2 .oraZpX
  | 6 => .f2 .aslZpX
  | 7 => .unused .nop17
  | 8 => .f1 .clc
  | 9 => .f3 .oraAbsY
  | 10 => .f1 .incA
  | 11 => .unused .nop1B
  | 12 => .f3 .trbAbs
  | 13 => .f3 .oraAbsX
  | 14 => .f3 .aslAbsX
  | _ => .unused .nop1F

/-- Row 2x of the opcode map of R85, by low nibble. -/
def opcodeRow2 (low : Nat) : OpcodeEntry :=
  match low with
  | 0 => .f3 .jsr
  | 1 => .f2 .andIndX
  | 2 => .unused .nop22
  | 3 => .unused .nop23
  | 4 => .f2 .bitZp
  | 5 => .f2 .andZp
  | 6 => .f2 .rolZp
  | 7 => .unused .nop27
  | 8 => .f1 .plp
  | 9 => .f2 .andImm
  | 10 => .f1 .rolA
  | 11 => .unused .nop2B
  | 12 => .f3 .bitAbs
  | 13 => .f3 .andAbs
  | 14 => .f3 .rolAbs
  | _ => .unused .nop2F

/-- Row 3x of the opcode map of R85, by low nibble. -/
def opcodeRow3 (low : Nat) : OpcodeEntry :=
  match low with
  | 0 => .f2 .bmi
  | 1 => .f2 .andIndY
  | 2 => .f2 .andInd
  | 3 => .unused .nop33
  | 4 => .f2 .bitZpX
  | 5 => .f2 .andZpX
  | 6 => .f2 .rolZpX
  | 7 => .unused .nop37
  | 8 => .f1 .sec
  | 9 => .f3 .andAbsY
  | 10 => .f1 .decA
  | 11 => .unused .nop3B
  | 12 => .f3 .bitAbsX
  | 13 => .f3 .andAbsX
  | 14 => .f3 .rolAbsX
  | _ => .unused .nop3F

/-- Row 4x of the opcode map of R85, by low nibble. -/
def opcodeRow4 (low : Nat) : OpcodeEntry :=
  match low with
  | 0 => .f1 .rti
  | 1 => .f2 .eorIndX
  | 2 => .unused .nop42
  | 3 => .unused .nop43
  | 4 => .unused .nop44
  | 5 => .f2 .eorZp
  | 6 => .f2 .lsrZp
  | 7 => .unused .nop47
  | 8 => .f1 .pha
  | 9 => .f2 .eorImm
  | 10 => .f1 .lsrA
  | 11 => .unused .nop4B
  | 12 => .f3 .jmpAbs
  | 13 => .f3 .eorAbs
  | 14 => .f3 .lsrAbs
  | _ => .unused .nop4F

/-- Row 5x of the opcode map of R85, by low nibble. -/
def opcodeRow5 (low : Nat) : OpcodeEntry :=
  match low with
  | 0 => .f2 .bvc
  | 1 => .f2 .eorIndY
  | 2 => .f2 .eorInd
  | 3 => .unused .nop53
  | 4 => .unused .nop54
  | 5 => .f2 .eorZpX
  | 6 => .f2 .lsrZpX
  | 7 => .unused .nop57
  | 8 => .f1 .cli
  | 9 => .f3 .eorAbsY
  | 10 => .f1 .phy
  | 11 => .unused .nop5B
  | 12 => .unused .nop5C
  | 13 => .f3 .eorAbsX
  | 14 => .f3 .lsrAbsX
  | _ => .unused .nop5F

/-- Row 6x of the opcode map of R85, by low nibble. -/
def opcodeRow6 (low : Nat) : OpcodeEntry :=
  match low with
  | 0 => .f1 .rts
  | 1 => .f2 .adcIndX
  | 2 => .unused .nop62
  | 3 => .unused .nop63
  | 4 => .f2 .stzZp
  | 5 => .f2 .adcZp
  | 6 => .f2 .rorZp
  | 7 => .unused .nop67
  | 8 => .f1 .pla
  | 9 => .f2 .adcImm
  | 10 => .f1 .rorA
  | 11 => .unused .nop6B
  | 12 => .f3 .jmpInd
  | 13 => .f3 .adcAbs
  | 14 => .f3 .rorAbs
  | _ => .unused .nop6F

/-- Row 7x of the opcode map of R85, by low nibble. -/
def opcodeRow7 (low : Nat) : OpcodeEntry :=
  match low with
  | 0 => .f2 .bvs
  | 1 => .f2 .adcIndY
  | 2 => .f2 .adcInd
  | 3 => .unused .nop73
  | 4 => .f2 .stzZpX
  | 5 => .f2 .adcZpX
  | 6 => .f2 .rorZpX
  | 7 => .unused .nop77
  | 8 => .f1 .sei
  | 9 => .f3 .adcAbsY
  | 10 => .f1 .ply
  | 11 => .unused .nop7B
  | 12 => .f3 .jmpIndX
  | 13 => .f3 .adcAbsX
  | 14 => .f3 .rorAbsX
  | _ => .unused .nop7F

/-- Row 8x of the opcode map of R85, by low nibble. -/
def opcodeRow8 (low : Nat) : OpcodeEntry :=
  match low with
  | 0 => .f2 .bra
  | 1 => .f2 .staIndX
  | 2 => .unused .nop82
  | 3 => .unused .nop83
  | 4 => .f2 .styZp
  | 5 => .f2 .staZp
  | 6 => .f2 .stxZp
  | 7 => .unused .nop87
  | 8 => .f1 .dey
  | 9 => .f2 .bitImm
  | 10 => .f1 .txa
  | 11 => .unused .nop8B
  | 12 => .f3 .styAbs
  | 13 => .f3 .staAbs
  | 14 => .f3 .stxAbs
  | _ => .unused .nop8F

/-- Row 9x of the opcode map of R85, by low nibble. -/
def opcodeRow9 (low : Nat) : OpcodeEntry :=
  match low with
  | 0 => .f2 .bcc
  | 1 => .f2 .staIndY
  | 2 => .f2 .staInd
  | 3 => .unused .nop93
  | 4 => .f2 .styZpX
  | 5 => .f2 .staZpX
  | 6 => .f2 .stxZpY
  | 7 => .unused .nop97
  | 8 => .f1 .tya
  | 9 => .f3 .staAbsY
  | 10 => .f1 .txs
  | 11 => .unused .nop9B
  | 12 => .f3 .stzAbs
  | 13 => .f3 .staAbsX
  | 14 => .f3 .stzAbsX
  | _ => .unused .nop9F

/-- Row Ax of the opcode map of R85, by low nibble. -/
def opcodeRowA (low : Nat) : OpcodeEntry :=
  match low with
  | 0 => .f2 .ldyImm
  | 1 => .f2 .ldaIndX
  | 2 => .f2 .ldxImm
  | 3 => .unused .nopA3
  | 4 => .f2 .ldyZp
  | 5 => .f2 .ldaZp
  | 6 => .f2 .ldxZp
  | 7 => .unused .nopA7
  | 8 => .f1 .tay
  | 9 => .f2 .ldaImm
  | 10 => .f1 .tax
  | 11 => .unused .nopAB
  | 12 => .f3 .ldyAbs
  | 13 => .f3 .ldaAbs
  | 14 => .f3 .ldxAbs
  | _ => .unused .nopAF

/-- Row Bx of the opcode map of R85, by low nibble. -/
def opcodeRowB (low : Nat) : OpcodeEntry :=
  match low with
  | 0 => .f2 .bcs
  | 1 => .f2 .ldaIndY
  | 2 => .f2 .ldaInd
  | 3 => .unused .nopB3
  | 4 => .f2 .ldyZpX
  | 5 => .f2 .ldaZpX
  | 6 => .f2 .ldxZpY
  | 7 => .unused .nopB7
  | 8 => .f1 .clv
  | 9 => .f3 .ldaAbsY
  | 10 => .f1 .tsx
  | 11 => .unused .nopBB
  | 12 => .f3 .ldyAbsX
  | 13 => .f3 .ldaAbsX
  | 14 => .f3 .ldxAbsY
  | _ => .unused .nopBF

/-- Row Cx of the opcode map of R85, by low nibble. -/
def opcodeRowC (low : Nat) : OpcodeEntry :=
  match low with
  | 0 => .f2 .cpyImm
  | 1 => .f2 .cmpIndX
  | 2 => .unused .nopC2
  | 3 => .unused .nopC3
  | 4 => .f2 .cpyZp
  | 5 => .f2 .cmpZp
  | 6 => .f2 .decZp
  | 7 => .unused .nopC7
  | 8 => .f1 .iny
  | 9 => .f2 .cmpImm
  | 10 => .f1 .dex
  | 11 => .unused .nopCB
  | 12 => .f3 .cpyAbs
  | 13 => .f3 .cmpAbs
  | 14 => .f3 .decAbs
  | _ => .unused .nopCF

/-- Row Dx of the opcode map of R85, by low nibble. -/
def opcodeRowD (low : Nat) : OpcodeEntry :=
  match low with
  | 0 => .f2 .bne
  | 1 => .f2 .cmpIndY
  | 2 => .f2 .cmpInd
  | 3 => .unused .nopD3
  | 4 => .unused .nopD4
  | 5 => .f2 .cmpZpX
  | 6 => .f2 .decZpX
  | 7 => .unused .nopD7
  | 8 => .f1 .cld
  | 9 => .f3 .cmpAbsY
  | 10 => .f1 .phx
  | 11 => .unused .nopDB
  | 12 => .unused .nopDC
  | 13 => .f3 .cmpAbsX
  | 14 => .f3 .decAbsX
  | _ => .unused .nopDF

/-- Row Ex of the opcode map of R85, by low nibble. -/
def opcodeRowE (low : Nat) : OpcodeEntry :=
  match low with
  | 0 => .f2 .cpxImm
  | 1 => .f2 .sbcIndX
  | 2 => .unused .nopE2
  | 3 => .unused .nopE3
  | 4 => .f2 .cpxZp
  | 5 => .f2 .sbcZp
  | 6 => .f2 .incZp
  | 7 => .unused .nopE7
  | 8 => .f1 .inx
  | 9 => .f2 .sbcImm
  | 10 => .f1 .nop
  | 11 => .unused .nopEB
  | 12 => .f3 .cpxAbs
  | 13 => .f3 .sbcAbs
  | 14 => .f3 .incAbs
  | _ => .unused .nopEF

/-- Row Fx of the opcode map of R85, by low nibble. -/
def opcodeRowF (low : Nat) : OpcodeEntry :=
  match low with
  | 0 => .f2 .beq
  | 1 => .f2 .sbcIndY
  | 2 => .f2 .sbcInd
  | 3 => .unused .nopF3
  | 4 => .unused .nopF4
  | 5 => .f2 .sbcZpX
  | 6 => .f2 .incZpX
  | 7 => .unused .nopF7
  | 8 => .f1 .sed
  | 9 => .f3 .sbcAbsY
  | 10 => .f1 .plx
  | 11 => .unused .nopFB
  | 12 => .unused .nopFC
  | 13 => .f3 .sbcAbsX
  | 14 => .f3 .incAbsX
  | _ => .unused .nopFF

/-- The opcode map of R85 (decoding: R82). -/
def opcodeEntry (op : Byte) : OpcodeEntry :=
  match op.toNat / 16 with
  | 0 => opcodeRow0 (op.toNat % 16)
  | 1 => opcodeRow1 (op.toNat % 16)
  | 2 => opcodeRow2 (op.toNat % 16)
  | 3 => opcodeRow3 (op.toNat % 16)
  | 4 => opcodeRow4 (op.toNat % 16)
  | 5 => opcodeRow5 (op.toNat % 16)
  | 6 => opcodeRow6 (op.toNat % 16)
  | 7 => opcodeRow7 (op.toNat % 16)
  | 8 => opcodeRow8 (op.toNat % 16)
  | 9 => opcodeRow9 (op.toNat % 16)
  | 10 => opcodeRowA (op.toNat % 16)
  | 11 => opcodeRowB (op.toNat % 16)
  | 12 => opcodeRowC (op.toNat % 16)
  | 13 => opcodeRowD (op.toNat % 16)
  | 14 => opcodeRowE (op.toNat % 16)
  | _ => opcodeRowF (op.toNat % 16)

/-- A length of an unused opcode in bytes. -/
def nopLenBytes (l : NopLen) : Nat :=
  match l with
  | .one => 1
  | .two => 2
  | .three => 3

/-- `NOP_LEN(opcode)` (R8, R91): the length of an unused opcode under a table of the parameter. -/
def nopLength (table : List NopEntry) (op : Byte) : Nat :=
  match table.find? (fun e => e.opcode == op) with
  | some e => nopLenBytes e.len
  | none => 1

/-- The default of NOP_LEN, the table of R91. PRESUMED (the spec marks it as general knowledge), log 12, unsafe. -/
def defaultNopLen : List NopEntry :=
  ([0x02, 0x22, 0x42, 0x62, 0x82, 0xC2, 0xE2, 0x44, 0x54, 0xD4, 0xF4].map fun op => NopEntry.mk op .two) ++
  ([0x5C, 0xDC, 0xFC].map fun op => NopEntry.mk op .three)

/-- The instruction that starts with the opcode byte `op`, its operand bytes being `b1` and `b2` as far as its format has
them (R82 to R84). Every opcode value decodes. -/
def decodeBytes (op b1 b2 : Byte) : Instr :=
  match opcodeEntry op with
  | .f1 i => i
  | .f2 build => build b1
  | .f3 build => build (word b1 b2)
  | .unused i => i

/-- The length in bytes of an instruction that starts with `op` (R80 to R82), under a table of NOP_LEN. -/
def opcodeLength (table : List NopEntry) (op : Byte) : Nat :=
  match opcodeEntry op with
  | .f1 _ => 1
  | .f2 _ => 2
  | .f3 _ => 3
  | .unused _ => nopLength table op

/-- Why a list of bytes is not an instruction. No opcode value is refused (R90): the list can only be too short. -/
inductive DecodeError where
  /-- There is no opcode byte. -/
  | noOpcode
  /-- The opcode is there and an operand byte of its format is not. -/
  | operandMissing (op : Byte)
deriving DecidableEq, Repr

/-- Decode the instruction at the head of a list of bytes, and give the bytes after it. -/
def decode (table : List NopEntry) (bytes : List Byte) : Except DecodeError (Instr × List Byte) :=
  match bytes with
  | [] => .error .noOpcode
  | op :: rest =>
    if opcodeLength table op - 1 ≤ rest.length then
      .ok (decodeBytes op (rest.getD 0 0) (rest.getD 1 0), rest.drop (opcodeLength table op - 1))
    else .error (.operandMissing op)

/-- The byte at index `k` of a number whose least significant byte is index 0. -/
def byteOf (w k : Nat) : Byte := BitVec.ofNat 8 (w / 256 ^ k)

/-- The bytes of an instruction word of `nbits` bits, bit 0 the least significant bit of the first byte, up to the longest
instruction; the bits above `nbits` are 0. -/
def wordBytes (nbits w : Nat) : List Byte :=
  [byteOf (w % 2 ^ nbits) 0, byteOf (w % 2 ^ nbits) 1, byteOf (w % 2 ^ nbits) 2]

/-- The instruction the decoder reads from an instruction word numbered as spec/opcode_table.json numbers its bits. -/
def decodeTableWord (nbits w : Nat) : Option Instr :=
  match decode defaultNopLen (wordBytes nbits w) with
  | .ok (i, _) => some i
  | .error _ => none

/-- The opcode byte of an instruction (R86). -/
def opcodeOf (i : Instr) : Byte :=
  match i with
  | .adcIndX _ => 0x61
  | .adcZp _ => 0x65
  | .adcImm _ => 0x69
  | .adcAbs _ => 0x6D
  | .adcIndY _ => 0x71
  | .adcInd _ => 0x72
  | .adcZpX _ => 0x75
  | .adcAbsY _ => 0x79
  | .adcAbsX _ => 0x7D
  | .andIndX _ => 0x21
  | .andZp _ => 0x25
  | .andImm _ => 0x29
  | .andAbs _ => 0x2D
  | .andIndY _ => 0x31
  | .andInd _ => 0x32
  | .andZpX _ => 0x35
  | .andAbsY _ => 0x39
  | .andAbsX _ => 0x3D
  | .aslZp _ => 0x06
  | .aslA => 0x0A
  | .aslAbs _ => 0x0E
  | .aslZpX _ => 0x16
  | .aslAbsX _ => 0x1E
  | .bcc _ => 0x90
  | .bcs _ => 0xB0
  | .beq _ => 0xF0
  | .bitZp _ => 0x24
  | .bitAbs _ => 0x2C
  | .bitZpX _ => 0x34
  | .bitAbsX _ => 0x3C
  | .bitImm _ => 0x89
  | .bmi _ => 0x30
  | .bne _ => 0xD0
  | .bpl _ => 0x10
  | .bra _ => 0x80
  | .brk => 0x00
  | .bvc _ => 0x50
  | .bvs _ => 0x70
  | .clc => 0x18
  | .cld => 0xD8
  | .cli => 0x58
  | .clv => 0xB8
  | .cmpIndX _ => 0xC1
  | .cmpZp _ => 0xC5
  | .cmpImm _ => 0xC9
  | .cmpAbs _ => 0xCD
  | .cmpIndY _ => 0xD1
  | .cmpInd _ => 0xD2
  | .cmpZpX _ => 0xD5
  | .cmpAbsY _ => 0xD9
  | .cmpAbsX _ => 0xDD
  | .cpxImm _ => 0xE0
  | .cpxZp _ => 0xE4
  | .cpxAbs _ => 0xEC
  | .cpyImm _ => 0xC0
  | .cpyZp _ => 0xC4
  | .cpyAbs _ => 0xCC
  | .decA => 0x3A
  | .decZp _ => 0xC6
  | .decAbs _ => 0xCE
  | .decZpX _ => 0xD6
  | .decAbsX _ => 0xDE
  | .dex => 0xCA
  | .dey => 0x88
  | .eorIndX _ => 0x41
  | .eorZp _ => 0x45
  | .eorImm _ => 0x49
  | .eorAbs _ => 0x4D
  | .eorIndY _ => 0x51
  | .eorInd _ => 0x52
  | .eorZpX _ => 0x55
  | .eorAbsY _ => 0x59
  | .eorAbsX _ => 0x5D
  | .incA => 0x1A
  | .incZp _ => 0xE6
  | .incAbs _ => 0xEE
  | .incZpX _ => 0xF6
  | .incAbsX _ => 0xFE
  | .inx => 0xE8
  | .iny => 0xC8
  | .jmpAbs _ => 0x4C
  | .jmpInd _ => 0x6C
  | .jmpIndX _ => 0x7C
  | .jsr _ => 0x20
  | .ldaIndX _ => 0xA1
  | .ldaZp _ => 0xA5
  | .ldaImm _ => 0xA9
  | .ldaAbs _ => 0xAD
  | .ldaIndY _ => 0xB1
  | .ldaInd _ => 0xB2
  | .ldaZpX _ => 0xB5
  | .ldaAbsY _ => 0xB9
  | .ldaAbsX _ => 0xBD
  | .ldxImm _ => 0xA2
  | .ldxZp _ => 0xA6
  | .ldxAbs _ => 0xAE
  | .ldxZpY _ => 0xB6
  | .ldxAbsY _ => 0xBE
  | .ldyImm _ => 0xA0
  | .ldyZp _ => 0xA4
  | .ldyAbs _ => 0xAC
  | .ldyZpX _ => 0xB4
  | .ldyAbsX _ => 0xBC
  | .lsrZp _ => 0x46
  | .lsrA => 0x4A
  | .lsrAbs _ => 0x4E
  | .lsrZpX _ => 0x56
  | .lsrAbsX _ => 0x5E
  | .nop => 0xEA
  | .nop02 => 0x02
  | .nop03 => 0x03
  | .nop07 => 0x07
  | .nop0B => 0x0B
  | .nop0F => 0x0F
  | .nop13 => 0x13
  | .nop17 => 0x17
  | .nop1B => 0x1B
  | .nop1F => 0x1F
  | .nop22 => 0x22
  | .nop23 => 0x23
  | .nop27 => 0x27
  | .nop2B => 0x2B
  | .nop2F => 0x2F
  | .nop33 => 0x33
  | .nop37 => 0x37
  | .nop3B => 0x3B
  | .nop3F => 0x3F
  | .nop42 => 0x42
  | .nop43 => 0x43
  | .nop44 => 0x44
  | .nop47 => 0x47
  | .nop4B => 0x4B
  | .nop4F => 0x4F
  | .nop53 => 0x53
  | .nop54 => 0x54
  | .nop57 => 0x57
  | .nop5B => 0x5B
  | .nop5C => 0x5C
  | .nop5F => 0x5F
  | .nop62 => 0x62
  | .nop63 => 0x63
  | .nop67 => 0x67
  | .nop6B => 0x6B
  | .nop6F => 0x6F
  | .nop73 => 0x73
  | .nop77 => 0x77
  | .nop7B => 0x7B
  | .nop7F => 0x7F
  | .nop82 => 0x82
  | .nop83 => 0x83
  | .nop87 => 0x87
  | .nop8B => 0x8B
  | .nop8F => 0x8F
  | .nop93 => 0x93
  | .nop97 => 0x97
  | .nop9B => 0x9B
  | .nop9F => 0x9F
  | .nopA3 => 0xA3
  | .nopA7 => 0xA7
  | .nopAB => 0xAB
  | .nopAF => 0xAF
  | .nopB3 => 0xB3
  | .nopB7 => 0xB7
  | .nopBB => 0xBB
  | .nopBF => 0xBF
  | .nopC2 => 0xC2
  | .nopC3 => 0xC3
  | .nopC7 => 0xC7
  | .nopCB => 0xCB
  | .nopCF => 0xCF
  | .nopD3 => 0xD3
  | .nopD4 => 0xD4
  | .nopD7 => 0xD7
  | .nopDB => 0xDB
  | .nopDC => 0xDC
  | .nopDF => 0xDF
  | .nopE2 => 0xE2
  | .nopE3 => 0xE3
  | .nopE7 => 0xE7
  | .nopEB => 0xEB
  | .nopEF => 0xEF
  | .nopF3 => 0xF3
  | .nopF4 => 0xF4
  | .nopF7 => 0xF7
  | .nopFB => 0xFB
  | .nopFC => 0xFC
  | .nopFF => 0xFF
  | .oraIndX _ => 0x01
  | .oraZp _ => 0x05
  | .oraImm _ => 0x09
  | .oraAbs _ => 0x0D
  | .oraIndY _ => 0x11
  | .oraInd _ => 0x12
  | .oraZpX _ => 0x15
  | .oraAbsY _ => 0x19
  | .oraAbsX _ => 0x1D
  | .pha => 0x48
  | .php => 0x08
  | .phx => 0xDA
  | .phy => 0x5A
  | .pla => 0x68
  | .plp => 0x28
  | .plx => 0xFA
  | .ply => 0x7A
  | .rolZp _ => 0x26
  | .rolA => 0x2A
  | .rolAbs _ => 0x2E
  | .rolZpX _ => 0x36
  | .rolAbsX _ => 0x3E
  | .rorZp _ => 0x66
  | .rorA => 0x6A
  | .rorAbs _ => 0x6E
  | .rorZpX _ => 0x76
  | .rorAbsX _ => 0x7E
  | .rti => 0x40
  | .rts => 0x60
  | .sbcIndX _ => 0xE1
  | .sbcZp _ => 0xE5
  | .sbcImm _ => 0xE9
  | .sbcAbs _ => 0xED
  | .sbcIndY _ => 0xF1
  | .sbcInd _ => 0xF2
  | .sbcZpX _ => 0xF5
  | .sbcAbsY _ => 0xF9
  | .sbcAbsX _ => 0xFD
  | .sec => 0x38
  | .sed => 0xF8
  | .sei => 0x78
  | .staIndX _ => 0x81
  | .staZp _ => 0x85
  | .staAbs _ => 0x8D
  | .staIndY _ => 0x91
  | .staInd _ => 0x92
  | .staZpX _ => 0x95
  | .staAbsY _ => 0x99
  | .staAbsX _ => 0x9D
  | .stxZp _ => 0x86
  | .stxAbs _ => 0x8E
  | .stxZpY _ => 0x96
  | .styZp _ => 0x84
  | .styAbs _ => 0x8C
  | .styZpX _ => 0x94
  | .stzZp _ => 0x64
  | .stzZpX _ => 0x74
  | .stzAbs _ => 0x9C
  | .stzAbsX _ => 0x9E
  | .tax => 0xAA
  | .tay => 0xA8
  | .trbZp _ => 0x14
  | .trbAbs _ => 0x1C
  | .tsbZp _ => 0x04
  | .tsbAbs _ => 0x0C
  | .tsx => 0xBA
  | .txa => 0x8A
  | .txs => 0x9A
  | .tya => 0x98

/-- The operand bytes of an instruction, low byte first (R80, R84). An unused opcode has none of its own. -/
def operandBytes (i : Instr) : List Byte :=
  match i with
  | .adcIndX b => [b]
  | .adcZp b => [b]
  | .adcImm b => [b]
  | .adcAbs w => [loByte w, hiByte w]
  | .adcIndY b => [b]
  | .adcInd b => [b]
  | .adcZpX b => [b]
  | .adcAbsY w => [loByte w, hiByte w]
  | .adcAbsX w => [loByte w, hiByte w]
  | .andIndX b => [b]
  | .andZp b => [b]
  | .andImm b => [b]
  | .andAbs w => [loByte w, hiByte w]
  | .andIndY b => [b]
  | .andInd b => [b]
  | .andZpX b => [b]
  | .andAbsY w => [loByte w, hiByte w]
  | .andAbsX w => [loByte w, hiByte w]
  | .aslZp b => [b]
  | .aslA => []
  | .aslAbs w => [loByte w, hiByte w]
  | .aslZpX b => [b]
  | .aslAbsX w => [loByte w, hiByte w]
  | .bcc b => [b]
  | .bcs b => [b]
  | .beq b => [b]
  | .bitZp b => [b]
  | .bitAbs w => [loByte w, hiByte w]
  | .bitZpX b => [b]
  | .bitAbsX w => [loByte w, hiByte w]
  | .bitImm b => [b]
  | .bmi b => [b]
  | .bne b => [b]
  | .bpl b => [b]
  | .bra b => [b]
  | .brk => []
  | .bvc b => [b]
  | .bvs b => [b]
  | .clc => []
  | .cld => []
  | .cli => []
  | .clv => []
  | .cmpIndX b => [b]
  | .cmpZp b => [b]
  | .cmpImm b => [b]
  | .cmpAbs w => [loByte w, hiByte w]
  | .cmpIndY b => [b]
  | .cmpInd b => [b]
  | .cmpZpX b => [b]
  | .cmpAbsY w => [loByte w, hiByte w]
  | .cmpAbsX w => [loByte w, hiByte w]
  | .cpxImm b => [b]
  | .cpxZp b => [b]
  | .cpxAbs w => [loByte w, hiByte w]
  | .cpyImm b => [b]
  | .cpyZp b => [b]
  | .cpyAbs w => [loByte w, hiByte w]
  | .decA => []
  | .decZp b => [b]
  | .decAbs w => [loByte w, hiByte w]
  | .decZpX b => [b]
  | .decAbsX w => [loByte w, hiByte w]
  | .dex => []
  | .dey => []
  | .eorIndX b => [b]
  | .eorZp b => [b]
  | .eorImm b => [b]
  | .eorAbs w => [loByte w, hiByte w]
  | .eorIndY b => [b]
  | .eorInd b => [b]
  | .eorZpX b => [b]
  | .eorAbsY w => [loByte w, hiByte w]
  | .eorAbsX w => [loByte w, hiByte w]
  | .incA => []
  | .incZp b => [b]
  | .incAbs w => [loByte w, hiByte w]
  | .incZpX b => [b]
  | .incAbsX w => [loByte w, hiByte w]
  | .inx => []
  | .iny => []
  | .jmpAbs w => [loByte w, hiByte w]
  | .jmpInd w => [loByte w, hiByte w]
  | .jmpIndX w => [loByte w, hiByte w]
  | .jsr w => [loByte w, hiByte w]
  | .ldaIndX b => [b]
  | .ldaZp b => [b]
  | .ldaImm b => [b]
  | .ldaAbs w => [loByte w, hiByte w]
  | .ldaIndY b => [b]
  | .ldaInd b => [b]
  | .ldaZpX b => [b]
  | .ldaAbsY w => [loByte w, hiByte w]
  | .ldaAbsX w => [loByte w, hiByte w]
  | .ldxImm b => [b]
  | .ldxZp b => [b]
  | .ldxAbs w => [loByte w, hiByte w]
  | .ldxZpY b => [b]
  | .ldxAbsY w => [loByte w, hiByte w]
  | .ldyImm b => [b]
  | .ldyZp b => [b]
  | .ldyAbs w => [loByte w, hiByte w]
  | .ldyZpX b => [b]
  | .ldyAbsX w => [loByte w, hiByte w]
  | .lsrZp b => [b]
  | .lsrA => []
  | .lsrAbs w => [loByte w, hiByte w]
  | .lsrZpX b => [b]
  | .lsrAbsX w => [loByte w, hiByte w]
  | .nop => []
  | .nop02 => []
  | .nop03 => []
  | .nop07 => []
  | .nop0B => []
  | .nop0F => []
  | .nop13 => []
  | .nop17 => []
  | .nop1B => []
  | .nop1F => []
  | .nop22 => []
  | .nop23 => []
  | .nop27 => []
  | .nop2B => []
  | .nop2F => []
  | .nop33 => []
  | .nop37 => []
  | .nop3B => []
  | .nop3F => []
  | .nop42 => []
  | .nop43 => []
  | .nop44 => []
  | .nop47 => []
  | .nop4B => []
  | .nop4F => []
  | .nop53 => []
  | .nop54 => []
  | .nop57 => []
  | .nop5B => []
  | .nop5C => []
  | .nop5F => []
  | .nop62 => []
  | .nop63 => []
  | .nop67 => []
  | .nop6B => []
  | .nop6F => []
  | .nop73 => []
  | .nop77 => []
  | .nop7B => []
  | .nop7F => []
  | .nop82 => []
  | .nop83 => []
  | .nop87 => []
  | .nop8B => []
  | .nop8F => []
  | .nop93 => []
  | .nop97 => []
  | .nop9B => []
  | .nop9F => []
  | .nopA3 => []
  | .nopA7 => []
  | .nopAB => []
  | .nopAF => []
  | .nopB3 => []
  | .nopB7 => []
  | .nopBB => []
  | .nopBF => []
  | .nopC2 => []
  | .nopC3 => []
  | .nopC7 => []
  | .nopCB => []
  | .nopCF => []
  | .nopD3 => []
  | .nopD4 => []
  | .nopD7 => []
  | .nopDB => []
  | .nopDC => []
  | .nopDF => []
  | .nopE2 => []
  | .nopE3 => []
  | .nopE7 => []
  | .nopEB => []
  | .nopEF => []
  | .nopF3 => []
  | .nopF4 => []
  | .nopF7 => []
  | .nopFB => []
  | .nopFC => []
  | .nopFF => []
  | .oraIndX b => [b]
  | .oraZp b => [b]
  | .oraImm b => [b]
  | .oraAbs w => [loByte w, hiByte w]
  | .oraIndY b => [b]
  | .oraInd b => [b]
  | .oraZpX b => [b]
  | .oraAbsY w => [loByte w, hiByte w]
  | .oraAbsX w => [loByte w, hiByte w]
  | .pha => []
  | .php => []
  | .phx => []
  | .phy => []
  | .pla => []
  | .plp => []
  | .plx => []
  | .ply => []
  | .rolZp b => [b]
  | .rolA => []
  | .rolAbs w => [loByte w, hiByte w]
  | .rolZpX b => [b]
  | .rolAbsX w => [loByte w, hiByte w]
  | .rorZp b => [b]
  | .rorA => []
  | .rorAbs w => [loByte w, hiByte w]
  | .rorZpX b => [b]
  | .rorAbsX w => [loByte w, hiByte w]
  | .rti => []
  | .rts => []
  | .sbcIndX b => [b]
  | .sbcZp b => [b]
  | .sbcImm b => [b]
  | .sbcAbs w => [loByte w, hiByte w]
  | .sbcIndY b => [b]
  | .sbcInd b => [b]
  | .sbcZpX b => [b]
  | .sbcAbsY w => [loByte w, hiByte w]
  | .sbcAbsX w => [loByte w, hiByte w]
  | .sec => []
  | .sed => []
  | .sei => []
  | .staIndX b => [b]
  | .staZp b => [b]
  | .staAbs w => [loByte w, hiByte w]
  | .staIndY b => [b]
  | .staInd b => [b]
  | .staZpX b => [b]
  | .staAbsY w => [loByte w, hiByte w]
  | .staAbsX w => [loByte w, hiByte w]
  | .stxZp b => [b]
  | .stxAbs w => [loByte w, hiByte w]
  | .stxZpY b => [b]
  | .styZp b => [b]
  | .styAbs w => [loByte w, hiByte w]
  | .styZpX b => [b]
  | .stzZp b => [b]
  | .stzZpX b => [b]
  | .stzAbs w => [loByte w, hiByte w]
  | .stzAbsX w => [loByte w, hiByte w]
  | .tax => []
  | .tay => []
  | .trbZp b => [b]
  | .trbAbs w => [loByte w, hiByte w]
  | .tsbZp b => [b]
  | .tsbAbs w => [loByte w, hiByte w]
  | .tsx => []
  | .txa => []
  | .txs => []
  | .tya => []

/-- The length in bytes of an instruction (R80, R81, R91). -/
def instrLength (table : List NopEntry) (i : Instr) : Nat :=
  if isUnusedOpcode (opcodeOf i) then nopLength table (opcodeOf i) else 1 + (operandBytes i).length

/-- The bytes of an instruction (R80, R81). The skipped bytes of an unused opcode are written as zero (log 12). -/
def encode (table : List NopEntry) (i : Instr) : List Byte :=
  opcodeOf i :: (operandBytes i ++ List.replicate (instrLength table i - 1 - (operandBytes i).length) 0)

end Sys2Proof
end

