-- ==== Sys2Proof/Machine/Defaults.lean ====
section
/-! DEFINITION. The default of each parameter of 00_scope.md R8 that is data. -/

namespace Sys2Proof.Machine

/-- MEM_MAP: "all 64 KiB plain RAM" (R8, 92_eei_decisions.md D16). DESIGN CHOICE, log 7. -/
def defaultMemMap : List Region := []

/-- BIT5_PUSHED: 1 (R8, D4). PRESUMED (the spec marks it as general knowledge), log 10, unsafe. -/
def defaultBit5Pushed : Bool := true

/-- B_MODEL: stored (R8, D4). DESIGN CHOICE of the spec, log 11, unsafe. -/
def defaultBModel : BModel := .stored

/-- SO_CONNECTED: false (R8, D15). DESIGN CHOICE of the spec, log 13. -/
def defaultSoConnected : Bool := false

/-- RESET_I: 1 (R8, D9). PRESUMED (the spec marks it as general knowledge), log 4, unsafe. -/
def defaultResetI : ResetI := .fixed true

/-- The parameter record of R8's column of defaults. -/
def defaultConfig : Config :=
  { memMap := defaultMemMap
    bit5Pushed := defaultBit5Pushed
    bModel := defaultBModel
    nopLen := defaultNopLen
    soConnected := defaultSoConnected
    resetI := defaultResetI }

/-- P.I in the state after reset under the default of RESET_I (10_state.md R41). -/
def defaultResetFlagI : Bool :=
  match defaultResetI with
  | .fixed i => i
  | .unspecified => true

end Sys2Proof.Machine
end

