-- ==== Sys2Proof/Machine/Memory.lean ====
section
/-! DEFINITION. The memory of 20_memory.md R50 and R51 as plain data: the bytes that differ from what an unlisted address
reads as, by rising address. -/

namespace Sys2Proof.Machine

/-- A memory: (address, byte) pairs. -/
abbrev Memory := List Host.Cell

/-- What an address that is not listed reads as. The spec gives no contents (10_state.md R41 "contents at power-on
unspecified"). DESIGN CHOICE, log 6, unsafe. -/
def unlistedByte : Byte := 0x00

/-- The byte at an address. -/
def Memory.load (m : Memory) (a : Nat) : Byte :=
  match m.find? (fun c => c.1 == a) with
  | some c => c.2
  | none => unlistedByte

/-- The memory without the entries of one address. -/
def Memory.erase (m : Memory) (a : Nat) : Memory := m.filter (fun c => c.1 != a)

/-- The memory with one more entry, before the first entry of a higher address. -/
def Memory.insert (c : Host.Cell) (m : Memory) : Memory :=
  match m with
  | [] => [c]
  | d :: rest => if c.1 < d.1 then c :: d :: rest else d :: Memory.insert c rest

/-- The memory after the byte at one address is written. Writing what an unlisted address reads as removes the entry. -/
def Memory.store (m : Memory) (a : Nat) (v : Byte) : Memory :=
  if v = unlistedByte then m.erase a else Memory.insert (a, v) (m.erase a)

/-- The canonical form: addresses strictly rise, lie in the 64 KiB of R50, and no entry equals what an unlisted address
reads as. -/
abbrev Memory.wf (m : Memory) : Prop :=
  m.Pairwise (fun c d => c.1 < d.1) ∧ ∀ c ∈ m, c.1 < 65536 ∧ c.2 ≠ unlistedByte

end Sys2Proof.Machine
end

