-- ==== Sys2Proof/Machine/State.lean ====
section
/-! DEFINITION. The state of the machine: every piece of state the spec names (10_state.md R20, R27, R39; 20_memory.md R51;
00_scope.md R15), the parameters, and three fields of the model's own. Plain data. -/

namespace Sys2Proof.Machine

/-- The seven flags of P (R27). Bit 5 is no flag and is not stored (R31). -/
structure Flags where
  /-- Sign, bit 7 (R28). -/
  n : Bool
  /-- Overflow, bit 6 (R29). -/
  v : Bool
  /-- Break, bit 4, used under B_MODEL = stored (R30). -/
  b : Bool
  /-- Decimal mode, bit 3 (R32). -/
  d : Bool
  /-- Interrupt disable, bit 2 (R33). -/
  i : Bool
  /-- Zero, bit 1 (R34). -/
  z : Bool
  /-- Carry, bit 0 (R35). -/
  c : Bool
deriving DecidableEq, Repr

/-- What the environment may do at a boundary (00_scope.md R15; 10_state.md R38, R39). -/
inductive Input where
  /-- Assert or release the reset input. -/
  | reset (asserted : Bool)
  /-- Request an NMI. -/
  | nmi
  /-- Drive the IRQ line. -/
  | irq (level : Bool)
  /-- Pulse the Set Overflow input. -/
  | setOverflow
deriving DecidableEq, Repr

structure State where
  /-- Accumulator (R21). -/
  a : Byte
  /-- X-index register (R22). -/
  x : Byte
  /-- Y-index register (R23). -/
  y : Byte
  /-- Stack pointer S (R24). -/
  sp : Byte
  /-- Program counter (R25). -/
  pc : Addr
  /-- Status flags P (R27). -/
  p : Flags
  /-- The bytes of RAM and ROM (20_memory.md R51). -/
  mem : Memory
  /-- A reset is requested (R15). -/
  resetReq : Bool
  /-- An NMI request is latched (R39). -/
  nmiPending : Bool
  /-- The level of the IRQ input (R39). -/
  irqLine : Bool
  /-- The parameters of 00_scope.md R8; no step changes them (log 18). -/
  cfg : Config
  /-- The model's own: what the environment does at each coming boundary, the next one first (log 19). -/
  inputs : List (List Input)
  /-- The model's own: the index of the free values, advanced by every step (log 20). -/
  draw : Nat
  /-- The model's own: the bytes handed to device registers, the latest first (R62; log 9). -/
  devOut : List Host.Cell
deriving DecidableEq, Repr

/-- The reasons the machine can stop with a fault: none. "There is no access fault, bus error, alignment fault, page fault,
stack fault or illegal-instruction fault" (20_memory.md R72). Having no constructor is what the spec says of the hardware, so
it is neither safe nor unsafe (log 30). -/
inductive Fault where
deriving DecidableEq, Repr

/-- The reasons an instruction has no meaning. -/
inductive Refusal where
  /-- Raised by `exec` for an instruction whose meaning is not written. No arm raises it in this model. Safe. -/
  | notModelled (mnemonic : String)
deriving DecidableEq, Repr

/-- The machine right after reset (10_state.md R41): PC is the word at $FFFC, D is 0, I is RESET_I, no NMI is pending. What
the spec leaves unspecified has the value that logs 1 to 6 name; the parameters have their defaults. -/
def State.reset : State :=
  { a := 0x00
    x := 0x00
    y := 0x00
    sp := 0x00
    pc := word (Memory.load [] 0xFFFC) (Memory.load [] 0xFFFD)
    p := { n := false, v := false, b := false, d := false, i := defaultResetFlagI, z := false, c := false }
    mem := []
    resetReq := false
    nmiPending := false
    irqLine := false
    cfg := defaultConfig
    inputs := []
    draw := 0
    devOut := [] }

end Sys2Proof.Machine
end

