-- ==== Sys2Proof/Machine/Flags.lean ====
section
/-! DEFINITION. Every flag computation of the spec: the status byte (43_stack.md R152), SetNZ (00_scope.md R12), the compare
function (46_logical_compare.md R189), the shift functions (45_shift_rotate.md R170 to R173), and binary and decimal
arithmetic (47_arithmetic.md R191 to R197). -/

namespace Sys2Proof.Machine

/-- `SetNZ(v)` (R12): N is bit 7 of `v`, Z says that `v` is zero. -/
def setNZ (v : Byte) (f : Flags) : Flags := { f with n := v[7], z := v == 0 }

/-- `PushedP(b4)` (R152): the status byte as it is pushed, bit 4 given, bit 5 the parameter BIT5_PUSHED. -/
def pushedP (cfg : Config) (b4 : Bool) (f : Flags) : Byte :=
  BitVec.ofBool f.n ++ BitVec.ofBool f.v ++ BitVec.ofBool cfg.bit5Pushed ++ BitVec.ofBool b4 ++
    BitVec.ofBool f.d ++ BitVec.ofBool f.i ++ BitVec.ofBool f.z ++ BitVec.ofBool f.c

/-- B after a status byte is pulled: bit 4, or under B_MODEL = phantom what it was (R152, 10_state.md R30). -/
def loadB (model : BModel) (old bit4 : Bool) : Bool :=
  match model with
  | .stored => bit4
  | .phantom => old

/-- `LoadP(b)` (R152): the flags pulled from a status byte; bit 5 is ignored (10_state.md R31). -/
def loadP (cfg : Config) (b : Byte) (f : Flags) : Flags :=
  { n := b[7], v := b[6], b := loadB cfg.bModel f.b b[4], d := b[3], i := b[2], z := b[1], c := b[0] }

/-- Bit 4 of the byte that `PHP` pushes: the stored B, or 1 under B_MODEL = phantom (R152, R154). -/
def phpBit4 (cfg : Config) (f : Flags) : Bool :=
  match cfg.bModel with
  | .stored => f.b
  | .phantom => true

/-- `P.B <- 1` of `BRK`; under B_MODEL = phantom there is no B to write (49_status_system.md R228). -/
def breakB (cfg : Config) (f : Flags) : Flags :=
  match cfg.bModel with
  | .stored => { f with b := true }
  | .phantom => f

/-- `Compare(R, m)` (R189): C is the unsigned R >= m, Z and N are those of the 8-bit difference. -/
def compareFlags (r m : Byte) (f : Flags) : Flags :=
  { f with c := decide (m.toNat ≤ r.toNat), z := r - m == 0, n := (r - m)[7] }

/-- A result byte and the carry that goes with it. -/
structure CarryResult where
  r : Byte
  c : Bool
deriving DecidableEq, Repr

/-- A result byte, carry and overflow. -/
structure ArithResult where
  r : Byte
  c : Bool
  v : Bool
deriving DecidableEq, Repr

/-- The function of `ASL` (R170). -/
def aslFn (v : Byte) (_cin : Bool) : CarryResult := { r := v <<< 1, c := v[7] }

/-- The function of `LSR` (R171). -/
def lsrFn (v : Byte) (_cin : Bool) : CarryResult := { r := v >>> 1, c := v[0] }

/-- The function of `ROL` (R172): `v[6:0] ## cin`. -/
def rolFn (v : Byte) (cin : Bool) : CarryResult := { r := v.extractLsb' 0 7 ++ BitVec.ofBool cin, c := v[7] }

/-- The function of `ROR` (R173): `cin ## v[7:1]`. -/
def rorFn (v : Byte) (cin : Bool) : CarryResult := { r := BitVec.ofBool cin ++ v.extractLsb' 1 7, c := v[0] }

/-- `AddBin(a, m, cin)` (R191). -/
def addBin (a m : Byte) (cin : Bool) : ArithResult :=
  let t := a.toNat + m.toNat + cin.toNat
  let r := BitVec.ofNat 8 t
  { r := r, c := decide (256 ≤ t), v := a[7] == m[7] && r[7] != a[7] }

/-- `SubBin(a, m, cin)` (R195). -/
def subBin (a m : Byte) (cin : Bool) : ArithResult :=
  let d : Int := (a.toNat : Int) - m.toNat - (1 - cin.toNat)
  let r := BitVec.ofInt 8 d
  { r := r, c := decide (0 ≤ d), v := a[7] != m[7] && r[7] != a[7] }

/-- A byte is valid BCD when both nibbles are 0 to 9 (R192). -/
def validBcd (b : Byte) : Bool := decide (b.toNat / 16 ≤ 9 ∧ b.toNat % 16 ≤ 9)

/-- `bcd(b)` (R10, R192): the number 0 to 99 that a valid BCD byte stands for. -/
def bcd (b : Byte) : Nat := 10 * (b.toNat / 16) + b.toNat % 16

/-- `tobcd(n)` for 0 <= n <= 99 (R10, R192). -/
def toBcd (n : Nat) : Byte := BitVec.ofNat 8 (16 * (n / 10) + n % 10)

/-- What decimal mode gives where an operand is not valid BCD: a free value (R197, log 15). -/
def invalidBcd (draw : Nat) (op : DecOp) (a m : Byte) (cin : Bool) : ArithResult :=
  let o := Config.decInvalid draw op a m cin
  { r := o.1, c := o.2.1, v := o.2.2 }

/-- `AddDec(a, m, cin)` (R192, R193, R197): V on valid BCD is a free value (log 14). -/
def addDec (draw : Nat) (a m : Byte) (cin : Bool) : ArithResult :=
  if validBcd a && validBcd m then
    let s := bcd a + bcd m + cin.toNat
    { r := toBcd (s % 100), c := decide (100 ≤ s), v := Config.decV draw .add a m cin }
  else invalidBcd draw .add a m cin

/-- `SubDec(a, m, cin)` (R196, R193, R197): V on valid BCD is a free value (log 14). -/
def subDec (draw : Nat) (a m : Byte) (cin : Bool) : ArithResult :=
  if validBcd a && validBcd m then
    let d : Int := (bcd a : Int) - bcd m - (1 - cin.toNat)
    { r := toBcd (d % 100).toNat, c := decide (0 ≤ d), v := Config.decV draw .sub a m cin }
  else invalidBcd draw .sub a m cin

/-- `signed8(b)` (R10). -/
def signed8 (b : Byte) : Int := b.toInt

/-- `AddDecRef` (R199): one admissible instantiation of the open decimal outcomes, from general knowledge. No meaning uses it. -/
def addDecRef (a m : Byte) (cin : Bool) : ArithResult :=
  let al0 := a.toNat % 16 + m.toNat % 16 + cin.toNat
  let al := if 0x0A ≤ al0 then (al0 + 0x06) % 16 + 0x10 else al0
  let t0 := (a &&& 0xF0).toNat + (m &&& 0xF0).toNat + al
  let sv : Int := signed8 (a &&& 0xF0) + signed8 (m &&& 0xF0) + al
  let t := if 0xA0 ≤ t0 then t0 + 0x60 else t0
  { r := BitVec.ofNat 8 t, c := decide (0x100 ≤ t), v := decide (sv < -128 ∨ 127 < sv) }

/-- `SubDecRef` (R199): one admissible instantiation of the open decimal outcomes, from general knowledge. No meaning uses it. -/
def subDecRef (a m : Byte) (cin : Bool) : ArithResult :=
  let bin := subBin a m cin
  let al : Int := ((a.toNat % 16 : Nat) : Int) - (m.toNat % 16 : Nat) - (1 - cin.toNat)
  let t0 : Int := (a.toNat : Int) - m.toNat - (1 - cin.toNat)
  let t1 := if t0 < 0 then t0 - 0x60 else t0
  let t2 := if al < 0 then t1 - 0x06 else t1
  { r := BitVec.ofInt 8 t2, c := bin.c, v := bin.v }

end Sys2Proof.Machine
end

