-- ==== Sys2Proof/Machine/Ops.lean ====
section
/-! DEFINITION. The named operations over registers, memory and stack, taking an exception (one shared operation) and
returning from one, reset, and the environment's inputs. -/

namespace Sys2Proof.Machine

/-! ### Registers -/

/-- `A <- v`. -/
def setA (v : Byte) (s : State) : State := { s with a := v }

/-- `X <- v`. -/
def setX (v : Byte) (s : State) : State := { s with x := v }

/-- `Y <- v`. -/
def setY (v : Byte) (s : State) : State := { s with y := v }

/-- `S <- v`. -/
def setSp (v : Byte) (s : State) : State := { s with sp := v }

/-- `PC <- v`. -/
def setPc (v : Addr) (s : State) : State := { s with pc := v }

/-- Replace the flags. -/
def setFlags (f : Flags) (s : State) : State := { s with p := f }

/-- Replace the memory. -/
def setMem (m : Memory) (s : State) : State := { s with mem := m }

/-- `SetNZ(v)` on the state (R12). -/
def setStateNZ (v : Byte) (s : State) : State := setFlags (setNZ v s.p) s

/-- `pc <- (pc + len) mod 65536` (10_state.md R26). -/
def advance (len : Nat) (s : State) : State := setPc (s.pc + BitVec.ofNat 16 len) s

/-! ### Memory -/

/-- Whether a region of MEM_MAP holds an address. -/
def regionHolds (a : Addr) (r : Region) : Bool := r.first.toNat ≤ a.toNat && a.toNat ≤ r.last.toNat

/-- The kind of an address: that of the first region that holds it, RAM where none does (00_scope.md R8). -/
def kindOf (cfg : Config) (a : Addr) : RegionKind :=
  match cfg.memMap.find? (regionHolds a) with
  | some r => r.kind
  | none => .ram

/-- `MemRead(a, 1)` (R12, 20_memory.md R51, R62). `use` says which read of the step it is. No read changes the state (R59). -/
def memRead (use : BusRead) (a : Addr) (s : State) : Byte :=
  match kindOf s.cfg a with
  | .ram => s.mem.load a.toNat
  | .rom => s.mem.load a.toNat
  | .io => Config.busByte s.draw use a
  | .unmapped => Config.busByte s.draw use a

/-- `MemWrite(a, 1, v)` (R12, R51, R62): RAM takes the byte, a device register is handed it, ROM and unmapped addresses ignore
it. -/
def memWrite (a : Addr) (v : Byte) (s : State) : State :=
  match kindOf s.cfg a with
  | .ram => setMem (s.mem.store a.toNat v) s
  | .rom => s
  | .io => { s with devOut := (a.toNat, v) :: s.devOut }
  | .unmapped => s

/-- `MemRead(a, 2)` (R12, R57): the low byte at `a`, the high byte at `(a + 1) mod 65536`. -/
def memReadWord (low high : BusRead) (a : Addr) (s : State) : Addr :=
  word (memRead low a s) (memRead high (a + 1) s)

/-- `$00 ## b`: the page-zero address of a byte (30_encoding.md R84). -/
def zeroPage (b : Byte) : Addr := word b 0x00

/-- `MemReadZP16(z)` (40_address_modes.md R101): both bytes of the pointer come from page zero. -/
def memReadPointer (z : Byte) (s : State) : Addr :=
  word (memRead .pointerLow (zeroPage z) s) (memRead .pointerHigh (zeroPage (z + 1)) s)

/-! ### The stack (43_stack.md R150, R151) -/

/-- `$01 ## S` (10_state.md R24). -/
def stackAddr (sp : Byte) : Addr := word sp 0x01

/-- `Push(v)` (R150). -/
def push (v : Byte) (s : State) : State := setSp (s.sp - 1) (memWrite (stackAddr s.sp) v s)

/-- The state after `Pull()` (R151): S is incremented. -/
def pulled (s : State) : State := setSp (s.sp + 1) s

/-- The byte that `Pull()` answers (R151): the one that the incremented S points to. -/
def pullByte (use : BusRead) (s : State) : Byte := memRead use (stackAddr (s.sp + 1)) s

/-- Push a 16-bit value, high byte first (20_memory.md R53). -/
def pushWord (w : Addr) (s : State) : State := push (loByte w) (push (hiByte w) s)

/-! ### Taking an exception and returning from one (60_exceptions.md) -/

/-- The handler's address, read from a vector: low byte at `vec`, high byte at `vec + 1` (R242). -/
def vectorWord (vec : Addr) (s : State) : Addr := memReadWord .vectorLow .vectorHigh vec s

/-- Taking an exception (R251, R255, R257): the return address is pushed, high byte first, then the status byte with the bit 4
given, holding D and I as they were; then I is set and D cleared, and PC is loaded from the vector. -/
def enter (ret vec : Addr) (b4 : Bool) (s : State) : State :=
  let s1 := pushWord ret s
  let s2 := push (pushedP s1.cfg b4 s1.p) s1
  let s3 := setFlags { s2.p with i := true, d := false } s2
  setPc (vectorWord vec s3) s3

/-- `Interrupt(vec)` (R251), the sequence of NMI and IRQ: the return address is that of the instruction not yet executed, bit 4
of the saved byte is 0, the live B is unchanged. -/
def enterInterrupt (vec : Addr) (s : State) : State := enter s.pc vec false s

/-- `NMI` (R252). -/
def takeNmi (s : State) : State := enterInterrupt 0xFFFA { s with nmiPending := false }

/-- `IRQ` (R253): the line is not changed by the processor. -/
def takeIrq (s : State) : State := enterInterrupt 0xFFFE s

/-- `Break` (R255): the return address is that of the `BRK` plus 2, the saved bit 4 is 1, the stored B becomes 1. -/
def enterBreak (s : State) : State :=
  enter (s.pc + 2) 0xFFFE true (setFlags (breakB s.cfg s.p) s)

/-- The I flag after a reset (R244): RESET_I, a free value where the parameter is unspecified. -/
def resetI (cfg : Config) (draw : Nat) (old : Bool) : Bool :=
  match cfg.resetI with
  | .fixed i => i
  | .unspecified => Config.resetFlag draw .i old

/-- The flags after a reset (10_state.md R41): D is 0, I is RESET_I, the others are free values (log 17). -/
def resetFlags (cfg : Config) (draw : Nat) (f : Flags) : Flags :=
  { n := Config.resetFlag draw .n f.n
    v := Config.resetFlag draw .v f.v
    b := Config.resetFlag draw .b f.b
    d := false
    i := resetI cfg draw f.i
    z := Config.resetFlag draw .z f.z
    c := Config.resetFlag draw .c f.c }

/-- `Reset` (R244, R41): PC from the vector at $FFFC, D cleared, I set to RESET_I, a pending NMI dropped; nothing is pushed and
memory is not written; the registers the spec leaves unspecified are free values (log 17). The request is taken by the sequence
(R245). -/
def takeReset (s : State) : State :=
  { s with
    a := Config.resetByte s.draw .a s.a
    x := Config.resetByte s.draw .x s.x
    y := Config.resetByte s.draw .y s.y
    sp := Config.resetByte s.draw .s s.sp
    p := resetFlags s.cfg s.draw s.p
    nmiPending := false
    resetReq := false
    pc := vectorWord 0xFFFC s }

/-- `RTI` (48_control_flow.md R205, R260): the status byte is pulled, then PC low, then PC high; PC is not incremented. -/
def returnFromInterrupt (s : State) : State :=
  let s1 := setFlags (loadP s.cfg (pullByte .pull1 s) s.p) (pulled s)
  let s2 := pulled s1
  setPc (word (pullByte .pull2 s1) (pullByte .pull3 s2)) (pulled s2)

/-! ### The environment (00_scope.md R15) -/

/-- The effect of one input (10_state.md R38, R39; R245, R249): a second NMI request before the first is taken is absorbed; Set
Overflow sets V only where SO_CONNECTED holds. -/
def applyInput (s : State) (e : Input) : State :=
  match e with
  | .reset asserted => { s with resetReq := asserted }
  | .nmi => { s with nmiPending := true }
  | .irq level => { s with irqLine := level }
  | .setOverflow => if s.cfg.soConnected then setFlags { s.p with v := true } s else s

/-- The start of a step: the environment does what its schedule says for this boundary (R246, R247), and the index of the free
values advances (log 20). -/
def beginStep (s : State) : State :=
  match s.inputs with
  | [] => { s with draw := s.draw + 1 }
  | now :: later => now.foldl applyInput { s with draw := s.draw + 1, inputs := later }

end Sys2Proof.Machine
end

