-- ==== Sys2Proof/Machine/Operands.lean ====
section
/-! DEFINITION. The address modes (40_address_modes.md R100 to R116): where an operand byte is, and what it is. -/

namespace Sys2Proof.Machine

/-- The nine modes that name a byte of memory, with the operand of the instruction. -/
inductive MemMode where
  /-- Zero Page (R105). -/
  | zp (addr : Byte)
  /-- Zero Page X-Indexed (R106). -/
  | zpX (addr : Byte)
  /-- Zero Page Y-Indexed (R107). -/
  | zpY (addr : Byte)
  /-- Absolute (R108). -/
  | abs (addr : Addr)
  /-- Absolute X-Indexed (R109). -/
  | absX (addr : Addr)
  /-- Absolute Y-Indexed (R110). -/
  | absY (addr : Addr)
  /-- Zero Page Indexed Indirect (R111). -/
  | indX (addr : Byte)
  /-- Zero Page Indirect Indexed (R112). -/
  | indY (addr : Byte)
  /-- Zero Page Indirect (R113). -/
  | ind (addr : Byte)
deriving DecidableEq, Repr

/-- A source operand: an immediate byte (R104) or a byte of memory. -/
inductive Operand where
  | imm (val : Byte)
  | mem (mode : MemMode)
deriving DecidableEq, Repr

/-- `zext_16(b)` (00_scope.md R10). -/
def zext16 (b : Byte) : Addr := b.setWidth 16

/-- `sext_16(b)` (R10). -/
def sext16 (b : Byte) : Addr := b.signExtend 16

/-- `EA(mode)`: the effective address (R105 to R113). No mode writes a register (R100). -/
def effAddr (m : MemMode) (s : State) : Addr :=
  match m with
  | .zp b => zeroPage b
  | .zpX b => zeroPage (b + s.x)
  | .zpY b => zeroPage (b + s.y)
  | .abs w => w
  | .absX w => w + zext16 s.x
  | .absY w => w + zext16 s.y
  | .indX b => memReadPointer (b + s.x) s
  | .indY b => memReadPointer b s + zext16 s.y
  | .ind b => memReadPointer b s

/-- The length in bytes of an instruction in a memory mode (30_encoding.md R81). -/
def modeLength (m : MemMode) : Nat :=
  match m with
  | .zp _ => 2
  | .zpX _ => 2
  | .zpY _ => 2
  | .abs _ => 3
  | .absX _ => 3
  | .absY _ => 3
  | .indX _ => 2
  | .indY _ => 2
  | .ind _ => 2

/-- The operand byte `M` (00_scope.md R12). -/
def operandByte (o : Operand) (s : State) : Byte :=
  match o with
  | .imm v => v
  | .mem m => memRead .data (effAddr m s) s

/-- The length in bytes of an instruction with a source operand (R81). -/
def operandLength (o : Operand) : Nat :=
  match o with
  | .imm _ => 2
  | .mem m => modeLength m

/-- The target of `JMP (addr16i)` (R114): the pointer's second byte is at the next address, with carry into the page. -/
def indirectTarget (w : Addr) (s : State) : Addr := memReadWord .pointerLow .pointerHigh w s

/-- The target of `JMP (addr16i,X)` (R115): X is added with a full 16-bit carry before the pointer is read. -/
def indexedIndirectTarget (w : Addr) (s : State) : Addr := indirectTarget (w + zext16 s.x) s

/-- The target of a branch at `pc` (R116): the displacement is relative to the next instruction. -/
def branchTarget (disp : Byte) (pc : Addr) : Addr := pc + 2 + sext16 disp

end Sys2Proof.Machine
end

