-- ==== Sys2Proof/Machine/Arith.lean ====
section
/-! DEFINITION. `ADC` and `SBC`, binary and decimal (47_arithmetic.md R190, R194). -/

namespace Sys2Proof.Machine

/-- `A <- r; P.C <- c; P.V <- v; SetNZ(r)` (R190, R194). -/
def writeArith (o : ArithResult) (s : State) : State :=
  setFlags (setNZ o.r { s.p with c := o.c, v := o.v }) (setA o.r s)

/-- The sum that `ADC` leaves: binary or decimal as D says (R190). -/
def adcResult (m : Byte) (s : State) : ArithResult :=
  if s.p.d then addDec s.draw s.a m s.p.c else addBin s.a m s.p.c

/-- The difference that `SBC` leaves: binary or decimal as D says (R194). -/
def sbcResult (m : Byte) (s : State) : ArithResult :=
  if s.p.d then subDec s.draw s.a m s.p.c else subBin s.a m s.p.c

/-- `ADC` (R190). -/
def addWithCarry (o : Operand) (s : State) : State :=
  advance (operandLength o) (writeArith (adcResult (operandByte o s) s) s)

/-- `SBC` (R194). -/
def subtractWithCarry (o : Operand) (s : State) : State :=
  advance (operandLength o) (writeArith (sbcResult (operandByte o s) s) s)

/-- `ADC (addr8i,X)` ($61, R190). -/
def execAdcIndX (addr : Byte) (s : State) : Host.Outcome State Fault Refusal :=
  .next (addWithCarry (.mem (.indX addr)) s)

/-- `ADC addr8` ($65, R190). -/
def execAdcZp (addr : Byte) (s : State) : Host.Outcome State Fault Refusal :=
  .next (addWithCarry (.mem (.zp addr)) s)

/-- `ADC #val8` ($69, R190). -/
def execAdcImm (val : Byte) (s : State) : Host.Outcome State Fault Refusal :=
  .next (addWithCarry (.imm val) s)

/-- `ADC addr16` ($6D, R190). -/
def execAdcAbs (addr : Addr) (s : State) : Host.Outcome State Fault Refusal :=
  .next (addWithCarry (.mem (.abs addr)) s)

/-- `ADC (addr8i),Y` ($71, R190). -/
def execAdcIndY (addr : Byte) (s : State) : Host.Outcome State Fault Refusal :=
  .next (addWithCarry (.mem (.indY addr)) s)

/-- `ADC (addr8i)` ($72, R190). -/
def execAdcInd (addr : Byte) (s : State) : Host.Outcome State Fault Refusal :=
  .next (addWithCarry (.mem (.ind addr)) s)

/-- `ADC addr8,X` ($75, R190). -/
def execAdcZpX (addr : Byte) (s : State) : Host.Outcome State Fault Refusal :=
  .next (addWithCarry (.mem (.zpX addr)) s)

/-- `ADC addr16,Y` ($79, R190). -/
def execAdcAbsY (addr : Addr) (s : State) : Host.Outcome State Fault Refusal :=
  .next (addWithCarry (.mem (.absY addr)) s)

/-- `ADC addr16,X` ($7D, R190). -/
def execAdcAbsX (addr : Addr) (s : State) : Host.Outcome State Fault Refusal :=
  .next (addWithCarry (.mem (.absX addr)) s)

/-- `SBC (addr8i,X)` ($E1, R194). -/
def execSbcIndX (addr : Byte) (s : State) : Host.Outcome State Fault Refusal :=
  .next (subtractWithCarry (.mem (.indX addr)) s)

/-- `SBC addr8` ($E5, R194). -/
def execSbcZp (addr : Byte) (s : State) : Host.Outcome State Fault Refusal :=
  .next (subtractWithCarry (.mem (.zp addr)) s)

/-- `SBC #val8` ($E9, R194). -/
def execSbcImm (val : Byte) (s : State) : Host.Outcome State Fault Refusal :=
  .next (subtractWithCarry (.imm val) s)

/-- `SBC addr16` ($ED, R194). -/
def execSbcAbs (addr : Addr) (s : State) : Host.Outcome State Fault Refusal :=
  .next (subtractWithCarry (.mem (.abs addr)) s)

/-- `SBC (addr8i),Y` ($F1, R194). -/
def execSbcIndY (addr : Byte) (s : State) : Host.Outcome State Fault Refusal :=
  .next (subtractWithCarry (.mem (.indY addr)) s)

/-- `SBC (addr8i)` ($F2, R194). -/
def execSbcInd (addr : Byte) (s : State) : Host.Outcome State Fault Refusal :=
  .next (subtractWithCarry (.mem (.ind addr)) s)

/-- `SBC addr8,X` ($F5, R194). -/
def execSbcZpX (addr : Byte) (s : State) : Host.Outcome State Fault Refusal :=
  .next (subtractWithCarry (.mem (.zpX addr)) s)

/-- `SBC addr16,Y` ($F9, R194). -/
def execSbcAbsY (addr : Addr) (s : State) : Host.Outcome State Fault Refusal :=
  .next (subtractWithCarry (.mem (.absY addr)) s)

/-- `SBC addr16,X` ($FD, R194). -/
def execSbcAbsX (addr : Addr) (s : State) : Host.Outcome State Fault Refusal :=
  .next (subtractWithCarry (.mem (.absX addr)) s)

end Sys2Proof.Machine
end

