-- ==== Sys2Proof/Machine/Control.lean ====
section
/-! DEFINITION. Jumps, calls, returns and branches (48_control_flow.md R200 to R215). -/

namespace Sys2Proof.Machine

/-- `JSR` (R203): the address of its own third byte is pushed. Both operand bytes are fetched before the pushes (log 25). -/
def callSubroutine (target : Addr) (s : State) : State := setPc target (pushWord (s.pc + 2) s)

/-- `RTS` (R204): the pulled address plus 1. -/
def returnFromSubroutine (s : State) : State :=
  setPc (word (pullByte .pull1 s) (pullByte .pull2 (pulled s)) + 1) (pulled (pulled s))

/-- The common branch rule (R206). -/
def branch (cond : Bool) (disp : Byte) (s : State) : State :=
  setPc (if cond then branchTarget disp s.pc else s.pc + 2) s

/-- `BCC disp8` ($90, R207). -/
def execBcc (disp : Byte) (s : State) : Host.Outcome State Fault Refusal :=
  .next (branch (!s.p.c) disp s)

/-- `BCS disp8` ($B0, R208). -/
def execBcs (disp : Byte) (s : State) : Host.Outcome State Fault Refusal :=
  .next (branch (s.p.c) disp s)

/-- `BEQ disp8` ($F0, R209). -/
def execBeq (disp : Byte) (s : State) : Host.Outcome State Fault Refusal :=
  .next (branch (s.p.z) disp s)

/-- `BMI disp8` ($30, R211). -/
def execBmi (disp : Byte) (s : State) : Host.Outcome State Fault Refusal :=
  .next (branch (s.p.n) disp s)

/-- `BNE disp8` ($D0, R210). -/
def execBne (disp : Byte) (s : State) : Host.Outcome State Fault Refusal :=
  .next (branch (!s.p.z) disp s)

/-- `BPL disp8` ($10, R212). -/
def execBpl (disp : Byte) (s : State) : Host.Outcome State Fault Refusal :=
  .next (branch (!s.p.n) disp s)

/-- `BRA disp8` ($80, R215). -/
def execBra (disp : Byte) (s : State) : Host.Outcome State Fault Refusal :=
  .next (branch (true) disp s)

/-- `BVC disp8` ($50, R213). -/
def execBvc (disp : Byte) (s : State) : Host.Outcome State Fault Refusal :=
  .next (branch (!s.p.v) disp s)

/-- `BVS disp8` ($70, R214). -/
def execBvs (disp : Byte) (s : State) : Host.Outcome State Fault Refusal :=
  .next (branch (s.p.v) disp s)

/-- `JMP addr16` ($4C, R200). -/
def execJmpAbs (addr : Addr) (s : State) : Host.Outcome State Fault Refusal :=
  .next (setPc addr s)

/-- `JMP (addr16i)` ($6C, R201). -/
def execJmpInd (addr : Addr) (s : State) : Host.Outcome State Fault Refusal :=
  .next (setPc (indirectTarget addr s) s)

/-- `JMP (addr16i,X)` ($7C, R202). -/
def execJmpIndX (addr : Addr) (s : State) : Host.Outcome State Fault Refusal :=
  .next (setPc (indexedIndirectTarget addr s) s)

/-- `JSR addr16` ($20, R203). -/
def execJsr (addr : Addr) (s : State) : Host.Outcome State Fault Refusal :=
  .next (callSubroutine addr s)

/-- `RTI` ($40, R205). -/
def execRti (s : State) : Host.Outcome State Fault Refusal :=
  .next (returnFromInterrupt s)

/-- `RTS` ($60, R204). -/
def execRts (s : State) : Host.Outcome State Fault Refusal :=
  .next (returnFromSubroutine s)

end Sys2Proof.Machine
end

