-- ==== Sys2Proof/Machine/IncDec.lean ====
section
/-! DEFINITION. Increment and decrement (44_inc_dec.md R160 to R165): binary whatever D holds, C and V neither read nor written. -/

namespace Sys2Proof.Machine

/-- The memory modes of `INC` and `DEC` (R160, R161): read, change, write back to the same address. -/
def modifyMem (f : Byte → Byte) (m : MemMode) (s : State) : State :=
  let ea := effAddr m s
  let r := f (memRead .data ea s)
  advance (modeLength m) (setStateNZ r (memWrite ea r s))

/-- The accumulator mode of `INC` and `DEC` (R160, R161). -/
def modifyA (f : Byte → Byte) (s : State) : State :=
  advance 1 (setStateNZ (f s.a) (setA (f s.a) s))

/-- `DEC A` ($3A, R161). -/
def execDecA (s : State) : Host.Outcome State Fault Refusal :=
  .next (modifyA (fun v => v - 1) s)

/-- `DEC addr8` ($C6, R161). -/
def execDecZp (addr : Byte) (s : State) : Host.Outcome State Fault Refusal :=
  .next (modifyMem (fun v => v - 1) (.zp addr) s)

/-- `DEC addr16` ($CE, R161). -/
def execDecAbs (addr : Addr) (s : State) : Host.Outcome State Fault Refusal :=
  .next (modifyMem (fun v => v - 1) (.abs addr) s)

/-- `DEC addr8,X` ($D6, R161). -/
def execDecZpX (addr : Byte) (s : State) : Host.Outcome State Fault Refusal :=
  .next (modifyMem (fun v => v - 1) (.zpX addr) s)

/-- `DEC addr16,X` ($DE, R161). -/
def execDecAbsX (addr : Addr) (s : State) : Host.Outcome State Fault Refusal :=
  .next (modifyMem (fun v => v - 1) (.absX addr) s)

/-- `DEX` ($CA, R164). -/
def execDex (s : State) : Host.Outcome State Fault Refusal :=
  .next (advance 1 (setStateNZ (s.x - 1) (setX (s.x - 1) s)))

/-- `DEY` ($88, R165). -/
def execDey (s : State) : Host.Outcome State Fault Refusal :=
  .next (advance 1 (setStateNZ (s.y - 1) (setY (s.y - 1) s)))

/-- `INC A` ($1A, R160). -/
def execIncA (s : State) : Host.Outcome State Fault Refusal :=
  .next (modifyA (fun v => v + 1) s)

/-- `INC addr8` ($E6, R160). -/
def execIncZp (addr : Byte) (s : State) : Host.Outcome State Fault Refusal :=
  .next (modifyMem (fun v => v + 1) (.zp addr) s)

/-- `INC addr16` ($EE, R160). -/
def execIncAbs (addr : Addr) (s : State) : Host.Outcome State Fault Refusal :=
  .next (modifyMem (fun v => v + 1) (.abs addr) s)

/-- `INC addr8,X` ($F6, R160). -/
def execIncZpX (addr : Byte) (s : State) : Host.Outcome State Fault Refusal :=
  .next (modifyMem (fun v => v + 1) (.zpX addr) s)

/-- `INC addr16,X` ($FE, R160). -/
def execIncAbsX (addr : Addr) (s : State) : Host.Outcome State Fault Refusal :=
  .next (modifyMem (fun v => v + 1) (.absX addr) s)

/-- `INX` ($E8, R162). -/
def execInx (s : State) : Host.Outcome State Fault Refusal :=
  .next (advance 1 (setStateNZ (s.x + 1) (setX (s.x + 1) s)))

/-- `INY` ($C8, R163). -/
def execIny (s : State) : Host.Outcome State Fault Refusal :=
  .next (advance 1 (setStateNZ (s.y + 1) (setY (s.y + 1) s)))

end Sys2Proof.Machine
end

