-- ==== Sys2Proof/Machine/LoadStore.lean ====
section
/-! DEFINITION. Load and store (41_load_store.md R130 to R136). -/

namespace Sys2Proof.Machine

/-- `v <- M; A <- v; SetNZ(v)` (R130). -/
def loadA (o : Operand) (s : State) : State :=
  advance (operandLength o) (setStateNZ (operandByte o s) (setA (operandByte o s) s))

/-- `v <- M; X <- v; SetNZ(v)` (R131). -/
def loadX (o : Operand) (s : State) : State :=
  advance (operandLength o) (setStateNZ (operandByte o s) (setX (operandByte o s) s))

/-- `v <- M; Y <- v; SetNZ(v)` (R132). -/
def loadY (o : Operand) (s : State) : State :=
  advance (operandLength o) (setStateNZ (operandByte o s) (setY (operandByte o s) s))

/-- `MemWrite(EA(mode), 1, v)`; no flag (R133 to R136). -/
def storeByte (v : Byte) (m : MemMode) (s : State) : State :=
  advance (modeLength m) (memWrite (effAddr m s) v s)

/-- `LDA (addr8i,X)` ($A1, R130). -/
def execLdaIndX (addr : Byte) (s : State) : Host.Outcome State Fault Refusal :=
  .next (loadA (.mem (.indX addr)) s)

/-- `LDA addr8` ($A5, R130). -/
def execLdaZp (addr : Byte) (s : State) : Host.Outcome State Fault Refusal :=
  .next (loadA (.mem (.zp addr)) s)

/-- `LDA #val8` ($A9, R130). -/
def execLdaImm (val : Byte) (s : State) : Host.Outcome State Fault Refusal :=
  .next (loadA (.imm val) s)

/-- `LDA addr16` ($AD, R130). -/
def execLdaAbs (addr : Addr) (s : State) : Host.Outcome State Fault Refusal :=
  .next (loadA (.mem (.abs addr)) s)

/-- `LDA (addr8i),Y` ($B1, R130). -/
def execLdaIndY (addr : Byte) (s : State) : Host.Outcome State Fault Refusal :=
  .next (loadA (.mem (.indY addr)) s)

/-- `LDA (addr8i)` ($B2, R130). -/
def execLdaInd (addr : Byte) (s : State) : Host.Outcome State Fault Refusal :=
  .next (loadA (.mem (.ind addr)) s)

/-- `LDA addr8,X` ($B5, R130). -/
def execLdaZpX (addr : Byte) (s : State) : Host.Outcome State Fault Refusal :=
  .next (loadA (.mem (.zpX addr)) s)

/-- `LDA addr16,Y` ($B9, R130). -/
def execLdaAbsY (addr : Addr) (s : State) : Host.Outcome State Fault Refusal :=
  .next (loadA (.mem (.absY addr)) s)

/-- `LDA addr16,X` ($BD, R130). -/
def execLdaAbsX (addr : Addr) (s : State) : Host.Outcome State Fault Refusal :=
  .next (loadA (.mem (.absX addr)) s)

/-- `LDX #val8` ($A2, R131). -/
def execLdxImm (val : Byte) (s : State) : Host.Outcome State Fault Refusal :=
  .next (loadX (.imm val) s)

/-- `LDX addr8` ($A6, R131). -/
def execLdxZp (addr : Byte) (s : State) : Host.Outcome State Fault Refusal :=
  .next (loadX (.mem (.zp addr)) s)

/-- `LDX addr16` ($AE, R131). -/
def execLdxAbs (addr : Addr) (s : State) : Host.Outcome State Fault Refusal :=
  .next (loadX (.mem (.abs addr)) s)

/-- `LDX addr8,Y` ($B6, R131). -/
def execLdxZpY (addr : Byte) (s : State) : Host.Outcome State Fault Refusal :=
  .next (loadX (.mem (.zpY addr)) s)

/-- `LDX addr16,Y` ($BE, R131). -/
def execLdxAbsY (addr : Addr) (s : State) : Host.Outcome State Fault Refusal :=
  .next (loadX (.mem (.absY addr)) s)

/-- `LDY #val8` ($A0, R132). -/
def execLdyImm (val : Byte) (s : State) : Host.Outcome State Fault Refusal :=
  .next (loadY (.imm val) s)

/-- `LDY addr8` ($A4, R132). -/
def execLdyZp (addr : Byte) (s : State) : Host.Outcome State Fault Refusal :=
  .next (loadY (.mem (.zp addr)) s)

/-- `LDY addr16` ($AC, R132). -/
def execLdyAbs (addr : Addr) (s : State) : Host.Outcome State Fault Refusal :=
  .next (loadY (.mem (.abs addr)) s)

/-- `LDY addr8,X` ($B4, R132). -/
def execLdyZpX (addr : Byte) (s : State) : Host.Outcome State Fault Refusal :=
  .next (loadY (.mem (.zpX addr)) s)

/-- `LDY addr16,X` ($BC, R132). -/
def execLdyAbsX (addr : Addr) (s : State) : Host.Outcome State Fault Refusal :=
  .next (loadY (.mem (.absX addr)) s)

/-- `STA (addr8i,X)` ($81, R133). -/
def execStaIndX (addr : Byte) (s : State) : Host.Outcome State Fault Refusal :=
  .next (storeByte s.a (.indX addr) s)

/-- `STA addr8` ($85, R133). -/
def execStaZp (addr : Byte) (s : State) : Host.Outcome State Fault Refusal :=
  .next (storeByte s.a (.zp addr) s)

/-- `STA addr16` ($8D, R133). -/
def execStaAbs (addr : Addr) (s : State) : Host.Outcome State Fault Refusal :=
  .next (storeByte s.a (.abs addr) s)

/-- `STA (addr8i),Y` ($91, R133). -/
def execStaIndY (addr : Byte) (s : State) : Host.Outcome State Fault Refusal :=
  .next (storeByte s.a (.indY addr) s)

/-- `STA (addr8i)` ($92, R133). -/
def execStaInd (addr : Byte) (s : State) : Host.Outcome State Fault Refusal :=
  .next (storeByte s.a (.ind addr) s)

/-- `STA addr8,X` ($95, R133). -/
def execStaZpX (addr : Byte) (s : State) : Host.Outcome State Fault Refusal :=
  .next (storeByte s.a (.zpX addr) s)

/-- `STA addr16,Y` ($99, R133). -/
def execStaAbsY (addr : Addr) (s : State) : Host.Outcome State Fault Refusal :=
  .next (storeByte s.a (.absY addr) s)

/-- `STA addr16,X` ($9D, R133). -/
def execStaAbsX (addr : Addr) (s : State) : Host.Outcome State Fault Refusal :=
  .next (storeByte s.a (.absX addr) s)

/-- `STX addr8` ($86, R134). -/
def execStxZp (addr : Byte) (s : State) : Host.Outcome State Fault Refusal :=
  .next (storeByte s.x (.zp addr) s)

/-- `STX addr16` ($8E, R134). -/
def execStxAbs (addr : Addr) (s : State) : Host.Outcome State Fault Refusal :=
  .next (storeByte s.x (.abs addr) s)

/-- `STX addr8,Y` ($96, R134). -/
def execStxZpY (addr : Byte) (s : State) : Host.Outcome State Fault Refusal :=
  .next (storeByte s.x (.zpY addr) s)

/-- `STY addr8` ($84, R135). -/
def execStyZp (addr : Byte) (s : State) : Host.Outcome State Fault Refusal :=
  .next (storeByte s.y (.zp addr) s)

/-- `STY addr16` ($8C, R135). -/
def execStyAbs (addr : Addr) (s : State) : Host.Outcome State Fault Refusal :=
  .next (storeByte s.y (.abs addr) s)

/-- `STY addr8,X` ($94, R135). -/
def execStyZpX (addr : Byte) (s : State) : Host.Outcome State Fault Refusal :=
  .next (storeByte s.y (.zpX addr) s)

/-- `STZ addr8` ($64, R136). -/
def execStzZp (addr : Byte) (s : State) : Host.Outcome State Fault Refusal :=
  .next (storeByte 0x00 (.zp addr) s)

/-- `STZ addr8,X` ($74, R136). -/
def execStzZpX (addr : Byte) (s : State) : Host.Outcome State Fault Refusal :=
  .next (storeByte 0x00 (.zpX addr) s)

/-- `STZ addr16` ($9C, R136). -/
def execStzAbs (addr : Addr) (s : State) : Host.Outcome State Fault Refusal :=
  .next (storeByte 0x00 (.abs addr) s)

/-- `STZ addr16,X` ($9E, R136). -/
def execStzAbsX (addr : Addr) (s : State) : Host.Outcome State Fault Refusal :=
  .next (storeByte 0x00 (.absX addr) s)

end Sys2Proof.Machine
end

