-- ==== Sys2Proof/Machine/Logic.lean ====
section
/-! DEFINITION. Logic, bit test, compare, test-and-modify (46_logical_compare.md R180 to R189). -/

namespace Sys2Proof.Machine

/-- `AND`, `ORA`, `EOR` (R180 to R182). -/
def logicA (f : Byte → Byte → Byte) (o : Operand) (s : State) : State :=
  let r := f s.a (operandByte o s)
  advance (operandLength o) (setStateNZ r (setA r s))

/-- `BIT #val8` (R183): Z only. -/
def bitTestImm (val : Byte) (s : State) : State :=
  advance 2 (setFlags { s.p with z := s.a &&& val == 0 } s)

/-- `BIT` on memory (R183): Z from `A & m`, N and V from bits 7 and 6 of the memory byte. -/
def bitTestMem (mode : MemMode) (s : State) : State :=
  let m := memRead .data (effAddr mode s) s
  advance (modeLength mode) (setFlags { s.p with z := s.a &&& m == 0, n := m[7], v := m[6] } s)

/-- `CMP`, `CPX`, `CPY` (R184 to R186, R189). -/
def compareWith (r : Byte) (o : Operand) (s : State) : State :=
  advance (operandLength o) (setFlags (compareFlags r (operandByte o s) s.p) s)

/-- `TRB`, `TSB` (R187, R188): Z is tested on the byte read; the write happens even when the byte does not change. -/
def testModify (f : Byte → Byte → Byte) (mode : MemMode) (s : State) : State :=
  let ea := effAddr mode s
  let m := memRead .data ea s
  advance (modeLength mode) (setFlags { s.p with z := s.a &&& m == 0 } (memWrite ea (f s.a m) s))

/-- `AND (addr8i,X)` ($21, R180). -/
def execAndIndX (addr : Byte) (s : State) : Host.Outcome State Fault Refusal :=
  .next (logicA (fun a m => a &&& m) (.mem (.indX addr)) s)

/-- `AND addr8` ($25, R180). -/
def execAndZp (addr : Byte) (s : State) : Host.Outcome State Fault Refusal :=
  .next (logicA (fun a m => a &&& m) (.mem (.zp addr)) s)

/-- `AND #val8` ($29, R180). -/
def execAndImm (val : Byte) (s : State) : Host.Outcome State Fault Refusal :=
  .next (logicA (fun a m => a &&& m) (.imm val) s)

/-- `AND addr16` ($2D, R180). -/
def execAndAbs (addr : Addr) (s : State) : Host.Outcome State Fault Refusal :=
  .next (logicA (fun a m => a &&& m) (.mem (.abs addr)) s)

/-- `AND (addr8i),Y` ($31, R180). -/
def execAndIndY (addr : Byte) (s : State) : Host.Outcome State Fault Refusal :=
  .next (logicA (fun a m => a &&& m) (.mem (.indY addr)) s)

/-- `AND (addr8i)` ($32, R180). -/
def execAndInd (addr : Byte) (s : State) : Host.Outcome State Fault Refusal :=
  .next (logicA (fun a m => a &&& m) (.mem (.ind addr)) s)

/-- `AND addr8,X` ($35, R180). -/
def execAndZpX (addr : Byte) (s : State) : Host.Outcome State Fault Refusal :=
  .next (logicA (fun a m => a &&& m) (.mem (.zpX addr)) s)

/-- `AND addr16,Y` ($39, R180). -/
def execAndAbsY (addr : Addr) (s : State) : Host.Outcome State Fault Refusal :=
  .next (logicA (fun a m => a &&& m) (.mem (.absY addr)) s)

/-- `AND addr16,X` ($3D, R180). -/
def execAndAbsX (addr : Addr) (s : State) : Host.Outcome State Fault Refusal :=
  .next (logicA (fun a m => a &&& m) (.mem (.absX addr)) s)

/-- `BIT addr8` ($24, R183). -/
def execBitZp (addr : Byte) (s : State) : Host.Outcome State Fault Refusal :=
  .next (bitTestMem (.zp addr) s)

/-- `BIT addr16` ($2C, R183). -/
def execBitAbs (addr : Addr) (s : State) : Host.Outcome State Fault Refusal :=
  .next (bitTestMem (.abs addr) s)

/-- `BIT addr8,X` ($34, R183). -/
def execBitZpX (addr : Byte) (s : State) : Host.Outcome State Fault Refusal :=
  .next (bitTestMem (.zpX addr) s)

/-- `BIT addr16,X` ($3C, R183). -/
def execBitAbsX (addr : Addr) (s : State) : Host.Outcome State Fault Refusal :=
  .next (bitTestMem (.absX addr) s)

/-- `BIT #val8` ($89, R183). -/
def execBitImm (val : Byte) (s : State) : Host.Outcome State Fault Refusal :=
  .next (bitTestImm val s)

/-- `CMP (addr8i,X)` ($C1, R184). -/
def execCmpIndX (addr : Byte) (s : State) : Host.Outcome State Fault Refusal :=
  .next (compareWith s.a (.mem (.indX addr)) s)

/-- `CMP addr8` ($C5, R184). -/
def execCmpZp (addr : Byte) (s : State) : Host.Outcome State Fault Refusal :=
  .next (compareWith s.a (.mem (.zp addr)) s)

/-- `CMP #val8` ($C9, R184). -/
def execCmpImm (val : Byte) (s : State) : Host.Outcome State Fault Refusal :=
  .next (compareWith s.a (.imm val) s)

/-- `CMP addr16` ($CD, R184). -/
def execCmpAbs (addr : Addr) (s : State) : Host.Outcome State Fault Refusal :=
  .next (compareWith s.a (.mem (.abs addr)) s)

/-- `CMP (addr8i),Y` ($D1, R184). -/
def execCmpIndY (addr : Byte) (s : State) : Host.Outcome State Fault Refusal :=
  .next (compareWith s.a (.mem (.indY addr)) s)

/-- `CMP (addr8i)` ($D2, R184). -/
def execCmpInd (addr : Byte) (s : State) : Host.Outcome State Fault Refusal :=
  .next (compareWith s.a (.mem (.ind addr)) s)

/-- `CMP addr8,X` ($D5, R184). -/
def execCmpZpX (addr : Byte) (s : State) : Host.Outcome State Fault Refusal :=
  .next (compareWith s.a (.mem (.zpX addr)) s)

/-- `CMP addr16,Y` ($D9, R184). -/
def execCmpAbsY (addr : Addr) (s : State) : Host.Outcome State Fault Refusal :=
  .next (compareWith s.a (.mem (.absY addr)) s)

/-- `CMP addr16,X` ($DD, R184). -/
def execCmpAbsX (addr : Addr) (s : State) : Host.Outcome State Fault Refusal :=
  .next (compareWith s.a (.mem (.absX addr)) s)

/-- `CPX #val8` ($E0, R185). -/
def execCpxImm (val : Byte) (s : State) : Host.Outcome State Fault Refusal :=
  .next (compareWith s.x (.imm val) s)

/-- `CPX addr8` ($E4, R185). -/
def execCpxZp (addr : Byte) (s : State) : Host.Outcome State Fault Refusal :=
  .next (compareWith s.x (.mem (.zp addr)) s)

/-- `CPX addr16` ($EC, R185). -/
def execCpxAbs (addr : Addr) (s : State) : Host.Outcome State Fault Refusal :=
  .next (compareWith s.x (.mem (.abs addr)) s)

/-- `CPY #val8` ($C0, R186). -/
def execCpyImm (val : Byte) (s : State) : Host.Outcome State Fault Refusal :=
  .next (compareWith s.y (.imm val) s)

/-- `CPY addr8` ($C4, R186). -/
def execCpyZp (addr : Byte) (s : State) : Host.Outcome State Fault Refusal :=
  .next (compareWith s.y (.mem (.zp addr)) s)

/-- `CPY addr16` ($CC, R186). -/
def execCpyAbs (addr : Addr) (s : State) : Host.Outcome State Fault Refusal :=
  .next (compareWith s.y (.mem (.abs addr)) s)

/-- `EOR (addr8i,X)` ($41, R182). -/
def execEorIndX (addr : Byte) (s : State) : Host.Outcome State Fault Refusal :=
  .next (logicA (fun a m => a ^^^ m) (.mem (.indX addr)) s)

/-- `EOR addr8` ($45, R182). -/
def execEorZp (addr : Byte) (s : State) : Host.Outcome State Fault Refusal :=
  .next (logicA (fun a m => a ^^^ m) (.mem (.zp addr)) s)

/-- `EOR #val8` ($49, R182). -/
def execEorImm (val : Byte) (s : State) : Host.Outcome State Fault Refusal :=
  .next (logicA (fun a m => a ^^^ m) (.imm val) s)

/-- `EOR addr16` ($4D, R182). -/
def execEorAbs (addr : Addr) (s : State) : Host.Outcome State Fault Refusal :=
  .next (logicA (fun a m => a ^^^ m) (.mem (.abs addr)) s)

/-- `EOR (addr8i),Y` ($51, R182). -/
def execEorIndY (addr : Byte) (s : State) : Host.Outcome State Fault Refusal :=
  .next (logicA (fun a m => a ^^^ m) (.mem (.indY addr)) s)

/-- `EOR (addr8i)` ($52, R182). -/
def execEorInd (addr : Byte) (s : State) : Host.Outcome State Fault Refusal :=
  .next (logicA (fun a m => a ^^^ m) (.mem (.ind addr)) s)

/-- `EOR addr8,X` ($55, R182). -/
def execEorZpX (addr : Byte) (s : State) : Host.Outcome State Fault Refusal :=
  .next (logicA (fun a m => a ^^^ m) (.mem (.zpX addr)) s)

/-- `EOR addr16,Y` ($59, R182). -/
def execEorAbsY (addr : Addr) (s : State) : Host.Outcome State Fault Refusal :=
  .next (logicA (fun a m => a ^^^ m) (.mem (.absY addr)) s)

/-- `EOR addr16,X` ($5D, R182). -/
def execEorAbsX (addr : Addr) (s : State) : Host.Outcome State Fault Refusal :=
  .next (logicA (fun a m => a ^^^ m) (.mem (.absX addr)) s)

/-- `ORA (addr8i,X)` ($01, R181). -/
def execOraIndX (addr : Byte) (s : State) : Host.Outcome State Fault Refusal :=
  .next (logicA (fun a m => a ||| m) (.mem (.indX addr)) s)

/-- `ORA addr8` ($05, R181). -/
def execOraZp (addr : Byte) (s : State) : Host.Outcome State Fault Refusal :=
  .next (logicA (fun a m => a ||| m) (.mem (.zp addr)) s)

/-- `ORA #val8` ($09, R181). -/
def execOraImm (val : Byte) (s : State) : Host.Outcome State Fault Refusal :=
  .next (logicA (fun a m => a ||| m) (.imm val) s)

/-- `ORA addr16` ($0D, R181). -/
def execOraAbs (addr : Addr) (s : State) : Host.Outcome State Fault Refusal :=
  .next (logicA (fun a m => a ||| m) (.mem (.abs addr)) s)

/-- `ORA (addr8i),Y` ($11, R181). -/
def execOraIndY (addr : Byte) (s : State) : Host.Outcome State Fault Refusal :=
  .next (logicA (fun a m => a ||| m) (.mem (.indY addr)) s)

/-- `ORA (addr8i)` ($12, R181). -/
def execOraInd (addr : Byte) (s : State) : Host.Outcome State Fault Refusal :=
  .next (logicA (fun a m => a ||| m) (.mem (.ind addr)) s)

/-- `ORA addr8,X` ($15, R181). -/
def execOraZpX (addr : Byte) (s : State) : Host.Outcome State Fault Refusal :=
  .next (logicA (fun a m => a ||| m) (.mem (.zpX addr)) s)

/-- `ORA addr16,Y` ($19, R181). -/
def execOraAbsY (addr : Addr) (s : State) : Host.Outcome State Fault Refusal :=
  .next (logicA (fun a m => a ||| m) (.mem (.absY addr)) s)

/-- `ORA addr16,X` ($1D, R181). -/
def execOraAbsX (addr : Addr) (s : State) : Host.Outcome State Fault Refusal :=
  .next (logicA (fun a m => a ||| m) (.mem (.absX addr)) s)

/-- `TRB addr8` ($14, R187). -/
def execTrbZp (addr : Byte) (s : State) : Host.Outcome State Fault Refusal :=
  .next (testModify (fun a m => ~~~a &&& m) (.zp addr) s)

/-- `TRB addr16` ($1C, R187). -/
def execTrbAbs (addr : Addr) (s : State) : Host.Outcome State Fault Refusal :=
  .next (testModify (fun a m => ~~~a &&& m) (.abs addr) s)

/-- `TSB addr8` ($04, R188). -/
def execTsbZp (addr : Byte) (s : State) : Host.Outcome State Fault Refusal :=
  .next (testModify (fun a m => a ||| m) (.zp addr) s)

/-- `TSB addr16` ($0C, R188). -/
def execTsbAbs (addr : Addr) (s : State) : Host.Outcome State Fault Refusal :=
  .next (testModify (fun a m => a ||| m) (.abs addr) s)

end Sys2Proof.Machine
end

