-- ==== Sys2Proof/Machine/Shift.lean ====
section
/-! DEFINITION. Shifts and rotates (45_shift_rotate.md R170 to R174). -/

namespace Sys2Proof.Machine

/-- The accumulator mode of the common frame (R174). -/
def shiftA (f : Byte → Bool → CarryResult) (s : State) : State :=
  let o := f s.a s.p.c
  advance 1 (setFlags (setNZ o.r { s.p with c := o.c }) (setA o.r s))

/-- The memory modes of the common frame (R174): the write happens even when the byte does not change. -/
def shiftMem (f : Byte → Bool → CarryResult) (m : MemMode) (s : State) : State :=
  let ea := effAddr m s
  let o := f (memRead .data ea s) s.p.c
  advance (modeLength m) (setFlags (setNZ o.r { s.p with c := o.c }) (memWrite ea o.r s))

/-- `ASL addr8` ($06, R170). -/
def execAslZp (addr : Byte) (s : State) : Host.Outcome State Fault Refusal :=
  .next (shiftMem aslFn (.zp addr) s)

/-- `ASL A` ($0A, R170). -/
def execAslA (s : State) : Host.Outcome State Fault Refusal :=
  .next (shiftA aslFn s)

/-- `ASL addr16` ($0E, R170). -/
def execAslAbs (addr : Addr) (s : State) : Host.Outcome State Fault Refusal :=
  .next (shiftMem aslFn (.abs addr) s)

/-- `ASL addr8,X` ($16, R170). -/
def execAslZpX (addr : Byte) (s : State) : Host.Outcome State Fault Refusal :=
  .next (shiftMem aslFn (.zpX addr) s)

/-- `ASL addr16,X` ($1E, R170). -/
def execAslAbsX (addr : Addr) (s : State) : Host.Outcome State Fault Refusal :=
  .next (shiftMem aslFn (.absX addr) s)

/-- `LSR addr8` ($46, R171). -/
def execLsrZp (addr : Byte) (s : State) : Host.Outcome State Fault Refusal :=
  .next (shiftMem lsrFn (.zp addr) s)

/-- `LSR A` ($4A, R171). -/
def execLsrA (s : State) : Host.Outcome State Fault Refusal :=
  .next (shiftA lsrFn s)

/-- `LSR addr16` ($4E, R171). -/
def execLsrAbs (addr : Addr) (s : State) : Host.Outcome State Fault Refusal :=
  .next (shiftMem lsrFn (.abs addr) s)

/-- `LSR addr8,X` ($56, R171). -/
def execLsrZpX (addr : Byte) (s : State) : Host.Outcome State Fault Refusal :=
  .next (shiftMem lsrFn (.zpX addr) s)

/-- `LSR addr16,X` ($5E, R171). -/
def execLsrAbsX (addr : Addr) (s : State) : Host.Outcome State Fault Refusal :=
  .next (shiftMem lsrFn (.absX addr) s)

/-- `ROL addr8` ($26, R172). -/
def execRolZp (addr : Byte) (s : State) : Host.Outcome State Fault Refusal :=
  .next (shiftMem rolFn (.zp addr) s)

/-- `ROL A` ($2A, R172). -/
def execRolA (s : State) : Host.Outcome State Fault Refusal :=
  .next (shiftA rolFn s)

/-- `ROL addr16` ($2E, R172). -/
def execRolAbs (addr : Addr) (s : State) : Host.Outcome State Fault Refusal :=
  .next (shiftMem rolFn (.abs addr) s)

/-- `ROL addr8,X` ($36, R172). -/
def execRolZpX (addr : Byte) (s : State) : Host.Outcome State Fault Refusal :=
  .next (shiftMem rolFn (.zpX addr) s)

/-- `ROL addr16,X` ($3E, R172). -/
def execRolAbsX (addr : Addr) (s : State) : Host.Outcome State Fault Refusal :=
  .next (shiftMem rolFn (.absX addr) s)

/-- `ROR addr8` ($66, R173). -/
def execRorZp (addr : Byte) (s : State) : Host.Outcome State Fault Refusal :=
  .next (shiftMem rorFn (.zp addr) s)

/-- `ROR A` ($6A, R173). -/
def execRorA (s : State) : Host.Outcome State Fault Refusal :=
  .next (shiftA rorFn s)

/-- `ROR addr16` ($6E, R173). -/
def execRorAbs (addr : Addr) (s : State) : Host.Outcome State Fault Refusal :=
  .next (shiftMem rorFn (.abs addr) s)

/-- `ROR addr8,X` ($76, R173). -/
def execRorZpX (addr : Byte) (s : State) : Host.Outcome State Fault Refusal :=
  .next (shiftMem rorFn (.zpX addr) s)

/-- `ROR addr16,X` ($7E, R173). -/
def execRorAbsX (addr : Addr) (s : State) : Host.Outcome State Fault Refusal :=
  .next (shiftMem rorFn (.absX addr) s)

end Sys2Proof.Machine
end

