-- ==== Sys2Proof/Machine/Stack.lean ====
section
/-! DEFINITION. Pushes and pulls (43_stack.md R149 to R159). -/

namespace Sys2Proof.Machine

/-- `PHA` ($48, R153). -/
def execPha (s : State) : Host.Outcome State Fault Refusal :=
  .next (advance 1 (push s.a s))

/-- `PHP` ($08, R154). -/
def execPhp (s : State) : Host.Outcome State Fault Refusal :=
  .next (advance 1 (push (pushedP s.cfg (phpBit4 s.cfg s.p) s.p) s))

/-- `PHX` ($DA, R155). -/
def execPhx (s : State) : Host.Outcome State Fault Refusal :=
  .next (advance 1 (push s.x s))

/-- `PHY` ($5A, R156). -/
def execPhy (s : State) : Host.Outcome State Fault Refusal :=
  .next (advance 1 (push s.y s))

/-- `PLA` ($68, R157). -/
def execPla (s : State) : Host.Outcome State Fault Refusal :=
  .next (advance 1 (setStateNZ (pullByte .pull1 s) (setA (pullByte .pull1 s) (pulled s))))

/-- `PLP` ($28, R158). -/
def execPlp (s : State) : Host.Outcome State Fault Refusal :=
  .next (advance 1 (setFlags (loadP s.cfg (pullByte .pull1 s) s.p) (pulled s)))

/-- `PLX` ($FA, R159). -/
def execPlx (s : State) : Host.Outcome State Fault Refusal :=
  .next (advance 1 (setStateNZ (pullByte .pull1 s) (setX (pullByte .pull1 s) (pulled s))))

/-- `PLY` ($7A, R149). -/
def execPly (s : State) : Host.Outcome State Fault Refusal :=
  .next (advance 1 (setStateNZ (pullByte .pull1 s) (setY (pullByte .pull1 s) (pulled s))))

end Sys2Proof.Machine
end

