-- ==== Sys2Proof/Machine/Status.lean ====
section
/-! DEFINITION. Flag instructions, `NOP` and `BRK` (49_status_system.md R220 to R228). -/

namespace Sys2Proof.Machine

/-- `BRK` ($00, R228). -/
def execBrk (s : State) : Host.Outcome State Fault Refusal :=
  .next (enterBreak s)

/-- `CLC` ($18, R220). -/
def execClc (s : State) : Host.Outcome State Fault Refusal :=
  .next (advance 1 (setFlags { s.p with c := false } s))

/-- `CLD` ($D8, R221). -/
def execCld (s : State) : Host.Outcome State Fault Refusal :=
  .next (advance 1 (setFlags { s.p with d := false } s))

/-- `CLI` ($58, R222). -/
def execCli (s : State) : Host.Outcome State Fault Refusal :=
  .next (advance 1 (setFlags { s.p with i := false } s))

/-- `CLV` ($B8, R223). -/
def execClv (s : State) : Host.Outcome State Fault Refusal :=
  .next (advance 1 (setFlags { s.p with v := false } s))

/-- `NOP` ($EA, R227). -/
def execNop (s : State) : Host.Outcome State Fault Refusal :=
  .next (advance 1 s)

/-- `SEC` ($38, R224). -/
def execSec (s : State) : Host.Outcome State Fault Refusal :=
  .next (advance 1 (setFlags { s.p with c := true } s))

/-- `SED` ($F8, R225). -/
def execSed (s : State) : Host.Outcome State Fault Refusal :=
  .next (advance 1 (setFlags { s.p with d := true } s))

/-- `SEI` ($78, R226). -/
def execSei (s : State) : Host.Outcome State Fault Refusal :=
  .next (advance 1 (setFlags { s.p with i := true } s))

end Sys2Proof.Machine
end

