-- ==== Sys2Proof/Machine/Transfer.lean ====
section
/-! DEFINITION. Register transfers (42_transfer.md R140 to R145). `TXS` writes no flag (90_conflicts.md C1). -/

namespace Sys2Proof.Machine

/-- `TAX` ($AA, R140). -/
def execTax (s : State) : Host.Outcome State Fault Refusal :=
  .next (advance 1 (setStateNZ s.a (setX s.a s)))

/-- `TAY` ($A8, R141). -/
def execTay (s : State) : Host.Outcome State Fault Refusal :=
  .next (advance 1 (setStateNZ s.a (setY s.a s)))

/-- `TSX` ($BA, R144). -/
def execTsx (s : State) : Host.Outcome State Fault Refusal :=
  .next (advance 1 (setStateNZ s.sp (setX s.sp s)))

/-- `TXA` ($8A, R142). -/
def execTxa (s : State) : Host.Outcome State Fault Refusal :=
  .next (advance 1 (setStateNZ s.x (setA s.x s)))

/-- `TXS` ($9A, R145). -/
def execTxs (s : State) : Host.Outcome State Fault Refusal :=
  .next (advance 1 (setSp s.x s))

/-- `TYA` ($98, R143). -/
def execTya (s : State) : Host.Outcome State Fault Refusal :=
  .next (advance 1 (setStateNZ s.y (setA s.y s)))

end Sys2Proof.Machine
end

