-- ==== Sys2Proof/Machine/Unused.lean ====
section
/-! DEFINITION. The 78 unused opcodes (49_status_system.md R231): nothing changes but PC. -/

namespace Sys2Proof.Machine

/-- An unused opcode (R231): PC advances by `NOP_LEN(opcode)`. -/
def unusedNop (op : Byte) (s : State) : State := advance (nopLength s.cfg.nopLen op) s

/-- `NOP*` ($02, R231). -/
def execNop02 (s : State) : Host.Outcome State Fault Refusal :=
  .next (unusedNop 0x02 s)

/-- `NOP*` ($03, R231). -/
def execNop03 (s : State) : Host.Outcome State Fault Refusal :=
  .next (unusedNop 0x03 s)

/-- `NOP*` ($07, R231). -/
def execNop07 (s : State) : Host.Outcome State Fault Refusal :=
  .next (unusedNop 0x07 s)

/-- `NOP*` ($0B, R231). -/
def execNop0B (s : State) : Host.Outcome State Fault Refusal :=
  .next (unusedNop 0x0B s)

/-- `NOP*` ($0F, R231). -/
def execNop0F (s : State) : Host.Outcome State Fault Refusal :=
  .next (unusedNop 0x0F s)

/-- `NOP*` ($13, R231). -/
def execNop13 (s : State) : Host.Outcome State Fault Refusal :=
  .next (unusedNop 0x13 s)

/-- `NOP*` ($17, R231). -/
def execNop17 (s : State) : Host.Outcome State Fault Refusal :=
  .next (unusedNop 0x17 s)

/-- `NOP*` ($1B, R231). -/
def execNop1B (s : State) : Host.Outcome State Fault Refusal :=
  .next (unusedNop 0x1B s)

/-- `NOP*` ($1F, R231). -/
def execNop1F (s : State) : Host.Outcome State Fault Refusal :=
  .next (unusedNop 0x1F s)

/-- `NOP*` ($22, R231). -/
def execNop22 (s : State) : Host.Outcome State Fault Refusal :=
  .next (unusedNop 0x22 s)

/-- `NOP*` ($23, R231). -/
def execNop23 (s : State) : Host.Outcome State Fault Refusal :=
  .next (unusedNop 0x23 s)

/-- `NOP*` ($27, R231). -/
def execNop27 (s : State) : Host.Outcome State Fault Refusal :=
  .next (unusedNop 0x27 s)

/-- `NOP*` ($2B, R231). -/
def execNop2B (s : State) : Host.Outcome State Fault Refusal :=
  .next (unusedNop 0x2B s)

/-- `NOP*` ($2F, R231). -/
def execNop2F (s : State) : Host.Outcome State Fault Refusal :=
  .next (unusedNop 0x2F s)

/-- `NOP*` ($33, R231). -/
def execNop33 (s : State) : Host.Outcome State Fault Refusal :=
  .next (unusedNop 0x33 s)

/-- `NOP*` ($37, R231). -/
def execNop37 (s : State) : Host.Outcome State Fault Refusal :=
  .next (unusedNop 0x37 s)

/-- `NOP*` ($3B, R231). -/
def execNop3B (s : State) : Host.Outcome State Fault Refusal :=
  .next (unusedNop 0x3B s)

/-- `NOP*` ($3F, R231). -/
def execNop3F (s : State) : Host.Outcome State Fault Refusal :=
  .next (unusedNop 0x3F s)

/-- `NOP*` ($42, R231). -/
def execNop42 (s : State) : Host.Outcome State Fault Refusal :=
  .next (unusedNop 0x42 s)

/-- `NOP*` ($43, R231). -/
def execNop43 (s : State) : Host.Outcome State Fault Refusal :=
  .next (unusedNop 0x43 s)

/-- `NOP*` ($44, R231). -/
def execNop44 (s : State) : Host.Outcome State Fault Refusal :=
  .next (unusedNop 0x44 s)

/-- `NOP*` ($47, R231). -/
def execNop47 (s : State) : Host.Outcome State Fault Refusal :=
  .next (unusedNop 0x47 s)

/-- `NOP*` ($4B, R231). -/
def execNop4B (s : State) : Host.Outcome State Fault Refusal :=
  .next (unusedNop 0x4B s)

/-- `NOP*` ($4F, R231). -/
def execNop4F (s : State) : Host.Outcome State Fault Refusal :=
  .next (unusedNop 0x4F s)

/-- `NOP*` ($53, R231). -/
def execNop53 (s : State) : Host.Outcome State Fault Refusal :=
  .next (unusedNop 0x53 s)

/-- `NOP*` ($54, R231). -/
def execNop54 (s : State) : Host.Outcome State Fault Refusal :=
  .next (unusedNop 0x54 s)

/-- `NOP*` ($57, R231). -/
def execNop57 (s : State) : Host.Outcome State Fault Refusal :=
  .next (unusedNop 0x57 s)

/-- `NOP*` ($5B, R231). -/
def execNop5B (s : State) : Host.Outcome State Fault Refusal :=
  .next (unusedNop 0x5B s)

/-- `NOP*` ($5C, R231). -/
def execNop5C (s : State) : Host.Outcome State Fault Refusal :=
  .next (unusedNop 0x5C s)

/-- `NOP*` ($5F, R231). -/
def execNop5F (s : State) : Host.Outcome State Fault Refusal :=
  .next (unusedNop 0x5F s)

/-- `NOP*` ($62, R231). -/
def execNop62 (s : State) : Host.Outcome State Fault Refusal :=
  .next (unusedNop 0x62 s)

/-- `NOP*` ($63, R231). -/
def execNop63 (s : State) : Host.Outcome State Fault Refusal :=
  .next (unusedNop 0x63 s)

/-- `NOP*` ($67, R231). -/
def execNop67 (s : State) : Host.Outcome State Fault Refusal :=
  .next (unusedNop 0x67 s)

/-- `NOP*` ($6B, R231). -/
def execNop6B (s : State) : Host.Outcome State Fault Refusal :=
  .next (unusedNop 0x6B s)

/-- `NOP*` ($6F, R231). -/
def execNop6F (s : State) : Host.Outcome State Fault Refusal :=
  .next (unusedNop 0x6F s)

/-- `NOP*` ($73, R231). -/
def execNop73 (s : State) : Host.Outcome State Fault Refusal :=
  .next (unusedNop 0x73 s)

/-- `NOP*` ($77, R231). -/
def execNop77 (s : State) : Host.Outcome State Fault Refusal :=
  .next (unusedNop 0x77 s)

/-- `NOP*` ($7B, R231). -/
def execNop7B (s : State) : Host.Outcome State Fault Refusal :=
  .next (unusedNop 0x7B s)

/-- `NOP*` ($7F, R231). -/
def execNop7F (s : State) : Host.Outcome State Fault Refusal :=
  .next (unusedNop 0x7F s)

/-- `NOP*` ($82, R231). -/
def execNop82 (s : State) : Host.Outcome State Fault Refusal :=
  .next (unusedNop 0x82 s)

/-- `NOP*` ($83, R231). -/
def execNop83 (s : State) : Host.Outcome State Fault Refusal :=
  .next (unusedNop 0x83 s)

/-- `NOP*` ($87, R231). -/
def execNop87 (s : State) : Host.Outcome State Fault Refusal :=
  .next (unusedNop 0x87 s)

/-- `NOP*` ($8B, R231). -/
def execNop8B (s : State) : Host.Outcome State Fault Refusal :=
  .next (unusedNop 0x8B s)

/-- `NOP*` ($8F, R231). -/
def execNop8F (s : State) : Host.Outcome State Fault Refusal :=
  .next (unusedNop 0x8F s)

/-- `NOP*` ($93, R231). -/
def execNop93 (s : State) : Host.Outcome State Fault Refusal :=
  .next (unusedNop 0x93 s)

/-- `NOP*` ($97, R231). -/
def execNop97 (s : State) : Host.Outcome State Fault Refusal :=
  .next (unusedNop 0x97 s)

/-- `NOP*` ($9B, R231). -/
def execNop9B (s : State) : Host.Outcome State Fault Refusal :=
  .next (unusedNop 0x9B s)

/-- `NOP*` ($9F, R231). -/
def execNop9F (s : State) : Host.Outcome State Fault Refusal :=
  .next (unusedNop 0x9F s)

/-- `NOP*` ($A3, R231). -/
def execNopA3 (s : State) : Host.Outcome State Fault Refusal :=
  .next (unusedNop 0xA3 s)

/-- `NOP*` ($A7, R231). -/
def execNopA7 (s : State) : Host.Outcome State Fault Refusal :=
  .next (unusedNop 0xA7 s)

/-- `NOP*` ($AB, R231). -/
def execNopAB (s : State) : Host.Outcome State Fault Refusal :=
  .next (unusedNop 0xAB s)

/-- `NOP*` ($AF, R231). -/
def execNopAF (s : State) : Host.Outcome State Fault Refusal :=
  .next (unusedNop 0xAF s)

/-- `NOP*` ($B3, R231). -/
def execNopB3 (s : State) : Host.Outcome State Fault Refusal :=
  .next (unusedNop 0xB3 s)

/-- `NOP*` ($B7, R231). -/
def execNopB7 (s : State) : Host.Outcome State Fault Refusal :=
  .next (unusedNop 0xB7 s)

/-- `NOP*` ($BB, R231). -/
def execNopBB (s : State) : Host.Outcome State Fault Refusal :=
  .next (unusedNop 0xBB s)

/-- `NOP*` ($BF, R231). -/
def execNopBF (s : State) : Host.Outcome State Fault Refusal :=
  .next (unusedNop 0xBF s)

/-- `NOP*` ($C2, R231). -/
def execNopC2 (s : State) : Host.Outcome State Fault Refusal :=
  .next (unusedNop 0xC2 s)

/-- `NOP*` ($C3, R231). -/
def execNopC3 (s : State) : Host.Outcome State Fault Refusal :=
  .next (unusedNop 0xC3 s)

/-- `NOP*` ($C7, R231). -/
def execNopC7 (s : State) : Host.Outcome State Fault Refusal :=
  .next (unusedNop 0xC7 s)

/-- `NOP*` ($CB, R231). -/
def execNopCB (s : State) : Host.Outcome State Fault Refusal :=
  .next (unusedNop 0xCB s)

/-- `NOP*` ($CF, R231). -/
def execNopCF (s : State) : Host.Outcome State Fault Refusal :=
  .next (unusedNop 0xCF s)

/-- `NOP*` ($D3, R231). -/
def execNopD3 (s : State) : Host.Outcome State Fault Refusal :=
  .next (unusedNop 0xD3 s)

/-- `NOP*` ($D4, R231). -/
def execNopD4 (s : State) : Host.Outcome State Fault Refusal :=
  .next (unusedNop 0xD4 s)

/-- `NOP*` ($D7, R231). -/
def execNopD7 (s : State) : Host.Outcome State Fault Refusal :=
  .next (unusedNop 0xD7 s)

/-- `NOP*` ($DB, R231). -/
def execNopDB (s : State) : Host.Outcome State Fault Refusal :=
  .next (unusedNop 0xDB s)

/-- `NOP*` ($DC, R231). -/
def execNopDC (s : State) : Host.Outcome State Fault Refusal :=
  .next (unusedNop 0xDC s)

/-- `NOP*` ($DF, R231). -/
def execNopDF (s : State) : Host.Outcome State Fault Refusal :=
  .next (unusedNop 0xDF s)

/-- `NOP*` ($E2, R231). -/
def execNopE2 (s : State) : Host.Outcome State Fault Refusal :=
  .next (unusedNop 0xE2 s)

/-- `NOP*` ($E3, R231). -/
def execNopE3 (s : State) : Host.Outcome State Fault Refusal :=
  .next (unusedNop 0xE3 s)

/-- `NOP*` ($E7, R231). -/
def execNopE7 (s : State) : Host.Outcome State Fault Refusal :=
  .next (unusedNop 0xE7 s)

/-- `NOP*` ($EB, R231). -/
def execNopEB (s : State) : Host.Outcome State Fault Refusal :=
  .next (unusedNop 0xEB s)

/-- `NOP*` ($EF, R231). -/
def execNopEF (s : State) : Host.Outcome State Fault Refusal :=
  .next (unusedNop 0xEF s)

/-- `NOP*` ($F3, R231). -/
def execNopF3 (s : State) : Host.Outcome State Fault Refusal :=
  .next (unusedNop 0xF3 s)

/-- `NOP*` ($F4, R231). -/
def execNopF4 (s : State) : Host.Outcome State Fault Refusal :=
  .next (unusedNop 0xF4 s)

/-- `NOP*` ($F7, R231). -/
def execNopF7 (s : State) : Host.Outcome State Fault Refusal :=
  .next (unusedNop 0xF7 s)

/-- `NOP*` ($FB, R231). -/
def execNopFB (s : State) : Host.Outcome State Fault Refusal :=
  .next (unusedNop 0xFB s)

/-- `NOP*` ($FC, R231). -/
def execNopFC (s : State) : Host.Outcome State Fault Refusal :=
  .next (unusedNop 0xFC s)

/-- `NOP*` ($FF, R231). -/
def execNopFF (s : State) : Host.Outcome State Fault Refusal :=
  .next (unusedNop 0xFF s)

end Sys2Proof.Machine
end

