-- ==== Sys2Proof/Machine/Dispatch.lean ====
section
/-! DEFINITION. The meaning of every instruction: one arm for each constructor of `Instr`. -/

namespace Sys2Proof.Machine

/-- One instruction, run at the state whose PC is the address of its opcode byte (00_scope.md R11). -/
def exec (i : Instr) (s : State) : Host.Outcome State Fault Refusal :=
  match i with
  | .brk => Sys2Proof.Machine.execBrk s
  | .oraIndX addr => Sys2Proof.Machine.execOraIndX addr s
  | .nop02 => Sys2Proof.Machine.execNop02 s
  | .nop03 => Sys2Proof.Machine.execNop03 s
  | .tsbZp addr => Sys2Proof.Machine.execTsbZp addr s
  | .oraZp addr => Sys2Proof.Machine.execOraZp addr s
  | .aslZp addr => Sys2Proof.Machine.execAslZp addr s
  | .nop07 => Sys2Proof.Machine.execNop07 s
  | .php => Sys2Proof.Machine.execPhp s
  | .oraImm val => Sys2Proof.Machine.execOraImm val s
  | .aslA => Sys2Proof.Machine.execAslA s
  | .nop0B => Sys2Proof.Machine.execNop0B s
  | .tsbAbs addr => Sys2Proof.Machine.execTsbAbs addr s
  | .oraAbs addr => Sys2Proof.Machine.execOraAbs addr s
  | .aslAbs addr => Sys2Proof.Machine.execAslAbs addr s
  | .nop0F => Sys2Proof.Machine.execNop0F s
  | .bpl disp => Sys2Proof.Machine.execBpl disp s
  | .oraIndY addr => Sys2Proof.Machine.execOraIndY addr s
  | .oraInd addr => Sys2Proof.Machine.execOraInd addr s
  | .nop13 => Sys2Proof.Machine.execNop13 s
  | .trbZp addr => Sys2Proof.Machine.execTrbZp addr s
  | .oraZpX addr => Sys2Proof.Machine.execOraZpX addr s
  | .aslZpX addr => Sys2Proof.Machine.execAslZpX addr s
  | .nop17 => Sys2Proof.Machine.execNop17 s
  | .clc => Sys2Proof.Machine.execClc s
  | .oraAbsY addr => Sys2Proof.Machine.execOraAbsY addr s
  | .incA => Sys2Proof.Machine.execIncA s
  | .nop1B => Sys2Proof.Machine.execNop1B s
  | .trbAbs addr => Sys2Proof.Machine.execTrbAbs addr s
  | .oraAbsX addr => Sys2Proof.Machine.execOraAbsX addr s
  | .aslAbsX addr => Sys2Proof.Machine.execAslAbsX addr s
  | .nop1F => Sys2Proof.Machine.execNop1F s
  | .jsr addr => Sys2Proof.Machine.execJsr addr s
  | .andIndX addr => Sys2Proof.Machine.execAndIndX addr s
  | .nop22 => Sys2Proof.Machine.execNop22 s
  | .nop23 => Sys2Proof.Machine.execNop23 s
  | .bitZp addr => Sys2Proof.Machine.execBitZp addr s
  | .andZp addr => Sys2Proof.Machine.execAndZp addr s
  | .rolZp addr => Sys2Proof.Machine.execRolZp addr s
  | .nop27 => Sys2Proof.Machine.execNop27 s
  | .plp => Sys2Proof.Machine.execPlp s
  | .andImm val => Sys2Proof.Machine.execAndImm val s
  | .rolA => Sys2Proof.Machine.execRolA s
  | .nop2B => Sys2Proof.Machine.execNop2B s
  | .bitAbs addr => Sys2Proof.Machine.execBitAbs addr s
  | .andAbs addr => Sys2Proof.Machine.execAndAbs addr s
  | .rolAbs addr => Sys2Proof.Machine.execRolAbs addr s
  | .nop2F => Sys2Proof.Machine.execNop2F s
  | .bmi disp => Sys2Proof.Machine.execBmi disp s
  | .andIndY addr => Sys2Proof.Machine.execAndIndY addr s
  | .andInd addr => Sys2Proof.Machine.execAndInd addr s
  | .nop33 => Sys2Proof.Machine.execNop33 s
  | .bitZpX addr => Sys2Proof.Machine.execBitZpX addr s
  | .andZpX addr => Sys2Proof.Machine.execAndZpX addr s
  | .rolZpX addr => Sys2Proof.Machine.execRolZpX addr s
  | .nop37 => Sys2Proof.Machine.execNop37 s
  | .sec => Sys2Proof.Machine.execSec s
  | .andAbsY addr => Sys2Proof.Machine.execAndAbsY addr s
  | .decA => Sys2Proof.Machine.execDecA s
  | .nop3B => Sys2Proof.Machine.execNop3B s
  | .bitAbsX addr => Sys2Proof.Machine.execBitAbsX addr s
  | .andAbsX addr => Sys2Proof.Machine.execAndAbsX addr s
  | .rolAbsX addr => Sys2Proof.Machine.execRolAbsX addr s
  | .nop3F => Sys2Proof.Machine.execNop3F s
  | .rti => Sys2Proof.Machine.execRti s
  | .eorIndX addr => Sys2Proof.Machine.execEorIndX addr s
  | .nop42 => Sys2Proof.Machine.execNop42 s
  | .nop43 => Sys2Proof.Machine.execNop43 s
  | .nop44 => Sys2Proof.Machine.execNop44 s
  | .eorZp addr => Sys2Proof.Machine.execEorZp addr s
  | .lsrZp addr => Sys2Proof.Machine.execLsrZp addr s
  | .nop47 => Sys2Proof.Machine.execNop47 s
  | .pha => Sys2Proof.Machine.execPha s
  | .eorImm val => Sys2Proof.Machine.execEorImm val s
  | .lsrA => Sys2Proof.Machine.execLsrA s
  | .nop4B => Sys2Proof.Machine.execNop4B s
  | .jmpAbs addr => Sys2Proof.Machine.execJmpAbs addr s
  | .eorAbs addr => Sys2Proof.Machine.execEorAbs addr s
  | .lsrAbs addr => Sys2Proof.Machine.execLsrAbs addr s
  | .nop4F => Sys2Proof.Machine.execNop4F s
  | .bvc disp => Sys2Proof.Machine.execBvc disp s
  | .eorIndY addr => Sys2Proof.Machine.execEorIndY addr s
  | .eorInd addr => Sys2Proof.Machine.execEorInd addr s
  | .nop53 => Sys2Proof.Machine.execNop53 s
  | .nop54 => Sys2Proof.Machine.execNop54 s
  | .eorZpX addr => Sys2Proof.Machine.execEorZpX addr s
  | .lsrZpX addr => Sys2Proof.Machine.execLsrZpX addr s
  | .nop57 => Sys2Proof.Machine.execNop57 s
  | .cli => Sys2Proof.Machine.execCli s
  | .eorAbsY addr => Sys2Proof.Machine.execEorAbsY addr s
  | .phy => Sys2Proof.Machine.execPhy s
  | .nop5B => Sys2Proof.Machine.execNop5B s
  | .nop5C => Sys2Proof.Machine.execNop5C s
  | .eorAbsX addr => Sys2Proof.Machine.execEorAbsX addr s
  | .lsrAbsX addr => Sys2Proof.Machine.execLsrAbsX addr s
  | .nop5F => Sys2Proof.Machine.execNop5F s
  | .rts => Sys2Proof.Machine.execRts s
  | .adcIndX addr => Sys2Proof.Machine.execAdcIndX addr s
  | .nop62 => Sys2Proof.Machine.execNop62 s
  | .nop63 => Sys2Proof.Machine.execNop63 s
  | .stzZp addr => Sys2Proof.Machine.execStzZp addr s
  | .adcZp addr => Sys2Proof.Machine.execAdcZp addr s
  | .rorZp addr => Sys2Proof.Machine.execRorZp addr s
  | .nop67 => Sys2Proof.Machine.execNop67 s
  | .pla => Sys2Proof.Machine.execPla s
  | .adcImm val => Sys2Proof.Machine.execAdcImm val s
  | .rorA => Sys2Proof.Machine.execRorA s
  | .nop6B => Sys2Proof.Machine.execNop6B s
  | .jmpInd addr => Sys2Proof.Machine.execJmpInd addr s
  | .adcAbs addr => Sys2Proof.Machine.execAdcAbs addr s
  | .rorAbs addr => Sys2Proof.Machine.execRorAbs addr s
  | .nop6F => Sys2Proof.Machine.execNop6F s
  | .bvs disp => Sys2Proof.Machine.execBvs disp s
  | .adcIndY addr => Sys2Proof.Machine.execAdcIndY addr s
  | .adcInd addr => Sys2Proof.Machine.execAdcInd addr s
  | .nop73 => Sys2Proof.Machine.execNop73 s
  | .stzZpX addr => Sys2Proof.Machine.execStzZpX addr s
  | .adcZpX addr => Sys2Proof.Machine.execAdcZpX addr s
  | .rorZpX addr => Sys2Proof.Machine.execRorZpX addr s
  | .nop77 => Sys2Proof.Machine.execNop77 s
  | .sei => Sys2Proof.Machine.execSei s
  | .adcAbsY addr => Sys2Proof.Machine.execAdcAbsY addr s
  | .ply => Sys2Proof.Machine.execPly s
  | .nop7B => Sys2Proof.Machine.execNop7B s
  | .jmpIndX addr => Sys2Proof.Machine.execJmpIndX addr s
  | .adcAbsX addr => Sys2Proof.Machine.execAdcAbsX addr s
  | .rorAbsX addr => Sys2Proof.Machine.execRorAbsX addr s
  | .nop7F => Sys2Proof.Machine.execNop7F s
  | .bra disp => Sys2Proof.Machine.execBra disp s
  | .staIndX addr => Sys2Proof.Machine.execStaIndX addr s
  | .nop82 => Sys2Proof.Machine.execNop82 s
  | .nop83 => Sys2Proof.Machine.execNop83 s
  | .styZp addr => Sys2Proof.Machine.execStyZp addr s
  | .staZp addr => Sys2Proof.Machine.execStaZp addr s
  | .stxZp addr => Sys2Proof.Machine.execStxZp addr s
  | .nop87 => Sys2Proof.Machine.execNop87 s
  | .dey => Sys2Proof.Machine.execDey s
  | .bitImm val => Sys2Proof.Machine.execBitImm val s
  | .txa => Sys2Proof.Machine.execTxa s
  | .nop8B => Sys2Proof.Machine.execNop8B s
  | .styAbs addr => Sys2Proof.Machine.execStyAbs addr s
  | .staAbs addr => Sys2Proof.Machine.execStaAbs addr s
  | .stxAbs addr => Sys2Proof.Machine.execStxAbs addr s
  | .nop8F => Sys2Proof.Machine.execNop8F s
  | .bcc disp => Sys2Proof.Machine.execBcc disp s
  | .staIndY addr => Sys2Proof.Machine.execStaIndY addr s
  | .staInd addr => Sys2Proof.Machine.execStaInd addr s
  | .nop93 => Sys2Proof.Machine.execNop93 s
  | .styZpX addr => Sys2Proof.Machine.execStyZpX addr s
  | .staZpX addr => Sys2Proof.Machine.execStaZpX addr s
  | .stxZpY addr => Sys2Proof.Machine.execStxZpY addr s
  | .nop97 => Sys2Proof.Machine.execNop97 s
  | .tya => Sys2Proof.Machine.execTya s
  | .staAbsY addr => Sys2Proof.Machine.execStaAbsY addr s
  | .txs => Sys2Proof.Machine.execTxs s
  | .nop9B => Sys2Proof.Machine.execNop9B s
  | .stzAbs addr => Sys2Proof.Machine.execStzAbs addr s
  | .staAbsX addr => Sys2Proof.Machine.execStaAbsX addr s
  | .stzAbsX addr => Sys2Proof.Machine.execStzAbsX addr s
  | .nop9F => Sys2Proof.Machine.execNop9F s
  | .ldyImm val => Sys2Proof.Machine.execLdyImm val s
  | .ldaIndX addr => Sys2Proof.Machine.execLdaIndX addr s
  | .ldxImm val => Sys2Proof.Machine.execLdxImm val s
  | .nopA3 => Sys2Proof.Machine.execNopA3 s
  | .ldyZp addr => Sys2Proof.Machine.execLdyZp addr s
  | .ldaZp addr => Sys2Proof.Machine.execLdaZp addr s
  | .ldxZp addr => Sys2Proof.Machine.execLdxZp addr s
  | .nopA7 => Sys2Proof.Machine.execNopA7 s
  | .tay => Sys2Proof.Machine.execTay s
  | .ldaImm val => Sys2Proof.Machine.execLdaImm val s
  | .tax => Sys2Proof.Machine.execTax s
  | .nopAB => Sys2Proof.Machine.execNopAB s
  | .ldyAbs addr => Sys2Proof.Machine.execLdyAbs addr s
  | .ldaAbs addr => Sys2Proof.Machine.execLdaAbs addr s
  | .ldxAbs addr => Sys2Proof.Machine.execLdxAbs addr s
  | .nopAF => Sys2Proof.Machine.execNopAF s
  | .bcs disp => Sys2Proof.Machine.execBcs disp s
  | .ldaIndY addr => Sys2Proof.Machine.execLdaIndY addr s
  | .ldaInd addr => Sys2Proof.Machine.execLdaInd addr s
  | .nopB3 => Sys2Proof.Machine.execNopB3 s
  | .ldyZpX addr => Sys2Proof.Machine.execLdyZpX addr s
  | .ldaZpX addr => Sys2Proof.Machine.execLdaZpX addr s
  | .ldxZpY addr => Sys2Proof.Machine.execLdxZpY addr s
  | .nopB7 => Sys2Proof.Machine.execNopB7 s
  | .clv => Sys2Proof.Machine.execClv s
  | .ldaAbsY addr => Sys2Proof.Machine.execLdaAbsY addr s
  | .tsx => Sys2Proof.Machine.execTsx s
  | .nopBB => Sys2Proof.Machine.execNopBB s
  | .ldyAbsX addr => Sys2Proof.Machine.execLdyAbsX addr s
  | .ldaAbsX addr => Sys2Proof.Machine.execLdaAbsX addr s
  | .ldxAbsY addr => Sys2Proof.Machine.execLdxAbsY addr s
  | .nopBF => Sys2Proof.Machine.execNopBF s
  | .cpyImm val => Sys2Proof.Machine.execCpyImm val s
  | .cmpIndX addr => Sys2Proof.Machine.execCmpIndX addr s
  | .nopC2 => Sys2Proof.Machine.execNopC2 s
  | .nopC3 => Sys2Proof.Machine.execNopC3 s
  | .cpyZp addr => Sys2Proof.Machine.execCpyZp addr s
  | .cmpZp addr => Sys2Proof.Machine.execCmpZp addr s
  | .decZp addr => Sys2Proof.Machine.execDecZp addr s
  | .nopC7 => Sys2Proof.Machine.execNopC7 s
  | .iny => Sys2Proof.Machine.execIny s
  | .cmpImm val => Sys2Proof.Machine.execCmpImm val s
  | .dex => Sys2Proof.Machine.execDex s
  | .nopCB => Sys2Proof.Machine.execNopCB s
  | .cpyAbs addr => Sys2Proof.Machine.execCpyAbs addr s
  | .cmpAbs addr => Sys2Proof.Machine.execCmpAbs addr s
  | .decAbs addr => Sys2Proof.Machine.execDecAbs addr s
  | .nopCF => Sys2Proof.Machine.execNopCF s
  | .bne disp => Sys2Proof.Machine.execBne disp s
  | .cmpIndY addr => Sys2Proof.Machine.execCmpIndY addr s
  | .cmpInd addr => Sys2Proof.Machine.execCmpInd addr s
  | .nopD3 => Sys2Proof.Machine.execNopD3 s
  | .nopD4 => Sys2Proof.Machine.execNopD4 s
  | .cmpZpX addr => Sys2Proof.Machine.execCmpZpX addr s
  | .decZpX addr => Sys2Proof.Machine.execDecZpX addr s
  | .nopD7 => Sys2Proof.Machine.execNopD7 s
  | .cld => Sys2Proof.Machine.execCld s
  | .cmpAbsY addr => Sys2Proof.Machine.execCmpAbsY addr s
  | .phx => Sys2Proof.Machine.execPhx s
  | .nopDB => Sys2Proof.Machine.execNopDB s
  | .nopDC => Sys2Proof.Machine.execNopDC s
  | .cmpAbsX addr => Sys2Proof.Machine.execCmpAbsX addr s
  | .decAbsX addr => Sys2Proof.Machine.execDecAbsX addr s
  | .nopDF => Sys2Proof.Machine.execNopDF s
  | .cpxImm val => Sys2Proof.Machine.execCpxImm val s
  | .sbcIndX addr => Sys2Proof.Machine.execSbcIndX addr s
  | .nopE2 => Sys2Proof.Machine.execNopE2 s
  | .nopE3 => Sys2Proof.Machine.execNopE3 s
  | .cpxZp addr => Sys2Proof.Machine.execCpxZp addr s
  | .sbcZp addr => Sys2Proof.Machine.execSbcZp addr s
  | .incZp addr => Sys2Proof.Machine.execIncZp addr s
  | .nopE7 => Sys2Proof.Machine.execNopE7 s
  | .inx => Sys2Proof.Machine.execInx s
  | .sbcImm val => Sys2Proof.Machine.execSbcImm val s
  | .nop => Sys2Proof.Machine.execNop s
  | .nopEB => Sys2Proof.Machine.execNopEB s
  | .cpxAbs addr => Sys2Proof.Machine.execCpxAbs addr s
  | .sbcAbs addr => Sys2Proof.Machine.execSbcAbs addr s
  | .incAbs addr => Sys2Proof.Machine.execIncAbs addr s
  | .nopEF => Sys2Proof.Machine.execNopEF s
  | .beq disp => Sys2Proof.Machine.execBeq disp s
  | .sbcIndY addr => Sys2Proof.Machine.execSbcIndY addr s
  | .sbcInd addr => Sys2Proof.Machine.execSbcInd addr s
  | .nopF3 => Sys2Proof.Machine.execNopF3 s
  | .nopF4 => Sys2Proof.Machine.execNopF4 s
  | .sbcZpX addr => Sys2Proof.Machine.execSbcZpX addr s
  | .incZpX addr => Sys2Proof.Machine.execIncZpX addr s
  | .nopF7 => Sys2Proof.Machine.execNopF7 s
  | .sed => Sys2Proof.Machine.execSed s
  | .sbcAbsY addr => Sys2Proof.Machine.execSbcAbsY addr s
  | .plx => Sys2Proof.Machine.execPlx s
  | .nopFB => Sys2Proof.Machine.execNopFB s
  | .nopFC => Sys2Proof.Machine.execNopFC s
  | .sbcAbsX addr => Sys2Proof.Machine.execSbcAbsX addr s
  | .incAbsX addr => Sys2Proof.Machine.execIncAbsX addr s
  | .nopFF => Sys2Proof.Machine.execNopFF s

end Sys2Proof.Machine
end

