-- ==== Sys2Proof/Machine/Fetch.lean ====
section
/-! DEFINITION. Fetching an instruction (30_encoding.md R82, R83) and placing one where the next step fetches it. -/

namespace Sys2Proof.Machine

/-- The instruction at PC (R82, R83): the opcode from `pc`, the operand bytes from `pc + 1` and `pc + 2` modulo 65536. A byte
that the format of the opcode does not have makes no difference: no operand byte of a one-byte instruction is looked at, the
signature byte of `BRK` included (R97). -/
def fetchInstr (s : State) : Instr :=
  decodeBytes (memRead .opcode s.pc s) (memRead .op1 (s.pc + 1) s) (memRead .op2 (s.pc + 2) s)

/-- Whether an address answers reads with the content of memory. -/
def readsContent (cfg : Config) (a : Addr) : Bool :=
  match kindOf cfg a with
  | .ram => true
  | .rom => true
  | .io => false
  | .unmapped => false

/-- The parameters with the three addresses from `pc` on answering from memory: unchanged where they do so already. -/
def fetchableConfig (cfg : Config) (pc : Addr) : Config :=
  if readsContent cfg pc && readsContent cfg (pc + 1) && readsContent cfg (pc + 2) then cfg
  else { cfg with memMap := [⟨pc, pc, .ram⟩, ⟨pc + 1, pc + 1, .ram⟩, ⟨pc + 2, pc + 2, .ram⟩] ++ cfg.memMap }

/-- The memory with the bytes of an instruction word loaded from `pc` on, modulo 65536. -/
def loadWord (m : Memory) (pc : Addr) (nbits w : Nat) : Memory :=
  ((m.store pc.toNat (byteOf (w % 2 ^ nbits) 0)).store (pc + 1).toNat (byteOf (w % 2 ^ nbits) 1)).store
    (pc + 2).toNat (byteOf (w % 2 ^ nbits) 2)

/-- The state with an instruction word where the next step fetches, and nothing that would keep the next step from fetching: no
event pending and none coming at the next boundary. -/
def placeWord (s : State) (nbits w : Nat) : State :=
  { s with
    mem := loadWord s.mem s.pc nbits w
    cfg := fetchableConfig s.cfg s.pc
    resetReq := false
    nmiPending := false
    irqLine := false
    inputs := [] }

end Sys2Proof.Machine
end

