-- ==== Sys2Proof/Machine/Step.lean ====
section
/-! DEFINITION. One step of the machine: one `Boundary` (60_exceptions.md R246). -/

namespace Sys2Proof.Machine

/-- `Boundary` (R246): at most one event is taken, in the order reset, NMI, unmasked IRQ; else one instruction is fetched and
executed. -/
def boundary (s : State) : Host.Outcome State Fault Refusal :=
  if s.resetReq then .next (takeReset s)
  else if s.nmiPending then .next (takeNmi s)
  else if s.irqLine && !s.p.i then .next (takeIrq s)
  else exec (fetchInstr s) s

/-- One step: the environment acts, then `Boundary` runs (00_scope.md R15). -/
def step (s : State) : Host.Outcome State Fault Refusal := boundary (beginStep s)

/-- `s` with an instruction word of `nbits` bits where the next step fetches it. -/
def State.withFetchWord (s : State) (nbits w : Nat) : State := placeWord s nbits w

end Sys2Proof.Machine
end

