-- ==== Sys2Proof/Machine/Timing.lean ====
section
/-! DEFINITION. Cycle counts as information (70_reset_and_hazards.md R290 to R293): a function of an instruction and of the state
it runs at. No step reads it and no state holds it (log 27). The counts on which the sources differ are those R293 records. -/

namespace Sys2Proof.Machine

/-- The base counts of the timing table of R291, by opcode, 0 where the opcode is unused. -/
def cycleTable : List Nat :=
  ([7, 6, 0, 0, 5, 3, 5, 0, 3, 2, 2, 0, 6, 4, 6, 0] ++
   [2, 5, 5, 0, 5, 4, 6, 0, 2, 4, 2, 0, 6, 4, 6, 0] ++
   [6, 6, 0, 0, 3, 3, 5, 0, 4, 2, 2, 0, 4, 4, 6, 0] ++
   [2, 5, 5, 0, 4, 4, 6, 0, 2, 4, 2, 0, 4, 4, 6, 0] ++
   [6, 6, 0, 0, 0, 3, 5, 0, 3, 2, 2, 0, 3, 4, 6, 0] ++
   [2, 5, 5, 0, 0, 4, 6, 0, 2, 4, 3, 0, 0, 4, 6, 0] ++
   [6, 6, 0, 0, 3, 3, 5, 0, 4, 2, 2, 0, 5, 4, 6, 0] ++
   [2, 5, 5, 0, 4, 4, 6, 0, 2, 4, 4, 0, 6, 4, 6, 0] ++
   [3, 6, 0, 0, 3, 3, 3, 0, 2, 2, 2, 0, 4, 4, 4, 0] ++
   [2, 6, 5, 0, 4, 4, 4, 0, 2, 5, 2, 0, 4, 5, 5, 0] ++
   [2, 6, 2, 0, 3, 3, 3, 0, 2, 2, 2, 0, 4, 4, 4, 0] ++
   [2, 5, 5, 0, 4, 4, 4, 0, 2, 4, 2, 0, 4, 4, 4, 0] ++
   [2, 6, 0, 0, 3, 3, 5, 0, 2, 2, 2, 0, 4, 4, 6, 0] ++
   [2, 5, 5, 0, 0, 4, 6, 0, 2, 4, 3, 0, 0, 4, 7, 0] ++
   [2, 6, 0, 0, 3, 3, 5, 0, 2, 2, 2, 0, 4, 4, 6, 0] ++
   [2, 5, 5, 0, 0, 4, 6, 0, 2, 4, 4, 0, 0, 4, 7, 0])

/-- The base count of an instruction, none for an unused opcode: "The unused opcodes have no timing in any source" (R291). -/
def baseCycles (i : Instr) : Option Nat :=
  if isUnusedOpcode (opcodeOf i) then none else some (cycleTable.getD (opcodeOf i).toNat 0)

/-- Whether two addresses are on different pages (R292). -/
def otherPage (a b : Addr) : Bool := hiByte a != hiByte b

/-- Whether indexing crosses a page boundary (R292): the effective address and its base are on different pages. -/
def indexCrosses (m : MemMode) (s : State) : Bool :=
  match m with
  | .absX w => otherPage (effAddr m s) w
  | .absY w => otherPage (effAddr m s) w
  | .indY b => otherPage (effAddr m s) (memReadPointer b s)
  | _ => false

/-- The mode of the instructions marked "+" in R291 as R293 records them: those that take one cycle more when indexing crosses
a page. -/
def plusMode (i : Instr) : Option MemMode :=
  match i with
  | .oraIndY addr => some (.indY addr)
  | .oraAbsY addr => some (.absY addr)
  | .oraAbsX addr => some (.absX addr)
  | .aslAbsX addr => some (.absX addr)
  | .andIndY addr => some (.indY addr)
  | .andAbsY addr => some (.absY addr)
  | .bitAbsX addr => some (.absX addr)
  | .andAbsX addr => some (.absX addr)
  | .rolAbsX addr => some (.absX addr)
  | .eorIndY addr => some (.indY addr)
  | .eorAbsY addr => some (.absY addr)
  | .eorAbsX addr => some (.absX addr)
  | .lsrAbsX addr => some (.absX addr)
  | .adcIndY addr => some (.indY addr)
  | .adcAbsY addr => some (.absY addr)
  | .adcAbsX addr => some (.absX addr)
  | .rorAbsX addr => some (.absX addr)
  | .ldaIndY addr => some (.indY addr)
  | .ldaAbsY addr => some (.absY addr)
  | .ldyAbsX addr => some (.absX addr)
  | .ldaAbsX addr => some (.absX addr)
  | .ldxAbsY addr => some (.absY addr)
  | .cmpIndY addr => some (.indY addr)
  | .cmpAbsY addr => some (.absY addr)
  | .cmpAbsX addr => some (.absX addr)
  | .sbcIndY addr => some (.indY addr)
  | .sbcAbsY addr => some (.absY addr)
  | .sbcAbsX addr => some (.absX addr)
  | _ => none

/-- The cycles that page crossing adds to an indexed instruction (R292). -/
def indexCycles (i : Instr) (s : State) : Nat :=
  match plusMode i with
  | some m => (indexCrosses m s).toNat
  | none => 0

/-- The displacement and the condition of a conditional branch (R207 to R214). -/
def branchCondition (i : Instr) (s : State) : Option (Byte × Bool) :=
  match i with
  | .bcc disp => some (disp, !s.p.c)
  | .bcs disp => some (disp, s.p.c)
  | .beq disp => some (disp, s.p.z)
  | .bne disp => some (disp, !s.p.z)
  | .bmi disp => some (disp, s.p.n)
  | .bpl disp => some (disp, !s.p.n)
  | .bvc disp => some (disp, !s.p.v)
  | .bvs disp => some (disp, s.p.v)
  | _ => none

/-- The cycles a branch adds (R292): one if it is taken and one more if the target is on another page than the next instruction;
`BRA` counts its being taken in its base. Which page the target is compared with is the reading of R292. PRESUMED, log 33, unsafe. -/
def branchCycles (i : Instr) (s : State) : Nat :=
  match i with
  | .bra disp => (otherPage (branchTarget disp s.pc) (s.pc + 2)).toNat
  | _ =>
    match branchCondition i s with
    | some (disp, true) => 1 + (otherPage (branchTarget disp s.pc) (s.pc + 2)).toNat
    | _ => 0

/-- The cycle that `ADC` and `SBC` add in decimal mode (R291, R293). -/
def decimalCycles (i : Instr) (s : State) : Nat :=
  match i with
  | .adcIndX _ => s.p.d.toNat
  | .adcZp _ => s.p.d.toNat
  | .adcImm _ => s.p.d.toNat
  | .adcAbs _ => s.p.d.toNat
  | .adcIndY _ => s.p.d.toNat
  | .adcInd _ => s.p.d.toNat
  | .adcZpX _ => s.p.d.toNat
  | .adcAbsY _ => s.p.d.toNat
  | .adcAbsX _ => s.p.d.toNat
  | .sbcIndX _ => s.p.d.toNat
  | .sbcZp _ => s.p.d.toNat
  | .sbcImm _ => s.p.d.toNat
  | .sbcAbs _ => s.p.d.toNat
  | .sbcIndY _ => s.p.d.toNat
  | .sbcInd _ => s.p.d.toNat
  | .sbcZpX _ => s.p.d.toNat
  | .sbcAbsY _ => s.p.d.toNat
  | .sbcAbsX _ => s.p.d.toNat
  | _ => 0

/-- The cycle that `JMP (addr16i)` adds for an operand $xxFF (R291, 90_conflicts.md C14). -/
def jumpCycles (i : Instr) : Nat :=
  match i with
  | .jmpInd addr => (loByte addr == 0xFF).toNat
  | _ => 0

/-- The cycle count of an instruction at a state (R291 to R293), none for an unused opcode. -/
def cycles (i : Instr) (s : State) : Option Nat :=
  (baseCycles i).map fun base => base + indexCycles i s + branchCycles i s + decimalCycles i s + jumpCycles i

end Sys2Proof.Machine
end

