-- ==== Sys2Proof/Safety.lean ====
section
/-! DEFINITION. What counts as a safe run and the invariant that every step keeps. -/

namespace Sys2Proof.Safety

open Sys2Proof.Machine

/-- A step answers a next state: neither a fault nor a refusal (20_memory.md R72). -/
def Steps (s : State) : Prop := ∃ t, step s = .next t

/-- `k` steps from `s`, each of them a next state. -/
def RunsFor (k : Nat) (s : State) : Prop := ∃ t, Host.Core.run core k s = .next t

/-- The invariant of the machine: memory is in its canonical form, within the 64 KiB of R50. -/
def Inv (s : State) : Prop := Memory.wf s.mem

/-- Two states with the same parameters (00_scope.md R8, 10_state.md R43). -/
def SameParameters (s t : State) : Prop := t.cfg = s.cfg

end Sys2Proof.Safety
end

