-- ==== Sys2Proof/Certificates/Slice0/Obligations.lean ====
section
/-! DEFINITION. The statements for the provers, each a closed proposition about the model, and the words they are written in.
The words of `Sys2Proof.Claims` compute with natural numbers what the model computes with bit vectors, so that a slip in a meaning
does not repeat itself in the statement about it. -/

namespace Sys2Proof.Claims

open Sys2Proof.Machine

/-- A form of an instruction with a source operand: opcode, instruction, operand, length in bytes. -/
structure Form where
  opcode : Byte
  instr : Instr
  operand : Operand
  len : Nat
deriving DecidableEq, Repr

/-- A form of an instruction with a byte of memory: opcode, instruction, address mode, length in bytes. -/
structure MemForm where
  opcode : Byte
  instr : Instr
  mode : MemMode
  len : Nat
deriving DecidableEq, Repr

/-- A number narrowed to a byte. -/
def byteMod (n : Nat) : Byte := BitVec.ofNat 8 (n % 256)

/-- A number narrowed to an address. -/
def addrMod (n : Nat) : Addr := BitVec.ofNat 16 (n % 65536)

/-- `(pc + len) mod 65536` (10_state.md R26). The wrap is the spec's own reading (decision D1, log 24). -/
def pcAfter (s : State) (len : Nat) : Addr := addrMod (s.pc.toNat + len)

/-- Bit `k` of a byte (00_scope.md R9). -/
def bit (v : Byte) (k : Nat) : Bool := decide (v.toNat / 2 ^ k % 2 = 1)

/-- `SetNZ(v)` (00_scope.md R12): N says that `v` is 128 or more, Z that it is zero. -/
def withNZ (v : Byte) (f : Flags) : Flags := { f with n := decide (128 ≤ v.toNat), z := decide (v.toNat = 0) }

/-- A bit as a number. -/
def num (c : Bool) : Nat := if c then 1 else 0

/-- The 16-bit value with a low and a high byte (20_memory.md R52). -/
def wordOf (lo hi : Byte) : Addr := addrMod (lo.toNat + 256 * hi.toNat)

/-- `$00 ## b`. -/
def pageZero (b : Byte) : Addr := addrMod b.toNat

/-- `$01 ## S`, the address of the stack byte that a value of S names (10_state.md R24). -/
def stackByte (sp : Byte) : Addr := addrMod (256 + sp.toNat)

/-- S less `k` mod 256, for `k` up to 256. -/
def down (sp : Byte) (k : Nat) : Byte := byteMod (sp.toNat + 256 - k)

/-- S plus `k` mod 256. -/
def up (sp : Byte) (k : Nat) : Byte := byteMod (sp.toNat + k)

/-- `MemReadZP16(z)` (40_address_modes.md R101): both bytes come from page zero. -/
def pageZeroPointer (z : Byte) (s : State) : Addr :=
  wordOf (memRead .pointerLow (pageZero z) s) (memRead .pointerHigh (pageZero (byteMod (z.toNat + 1))) s)

/-- `MemRead(p, 2)` for the pointer of a jump (40_address_modes.md R114): the second byte is at the next address. -/
def jumpPointer (p : Addr) (s : State) : Addr :=
  wordOf (memRead .pointerLow p s) (memRead .pointerHigh (addrMod (p.toNat + 1)) s)

/-- The word that a vector holds (20_memory.md R61). -/
def vector (a : Addr) (s : State) : Addr :=
  wordOf (memRead .vectorLow a s) (memRead .vectorHigh (addrMod (a.toNat + 1)) s)

/-- `PushedP(b4)` (43_stack.md R152) as a sum of powers of two. -/
def statusByte (bit5 b4 : Bool) (f : Flags) : Byte :=
  byteMod (128 * num f.n + 64 * num f.v + 32 * num bit5 + 16 * num b4 + 8 * num f.d + 4 * num f.i + 2 * num f.z + num f.c)

/-- `LoadP(b)` (R152): under B_MODEL = phantom bit 4 is ignored. -/
def unpacked (cfg : Config) (b : Byte) (f : Flags) : Flags :=
  { n := bit b 7, v := bit b 6, b := if cfg.bModel = .stored then bit b 4 else f.b
    d := bit b 3, i := bit b 2, z := bit b 1, c := bit b 0 }

/-- `t` is `s` after the byte `v` is written to the address `ea` and nothing else (00_scope.md R12 MemWrite; 20_memory.md R51, R62):
every field but memory and the device log is as it was; every other address reads as it did, whatever the read is for; RAM at `ea`
then reads as `v`; a device register at `ea` is handed the byte (log 9); ROM and unmapped addresses ignore it. -/
def Wrote (ea : Addr) (v : Byte) (s t : State) : Prop :=
  t = { s with mem := t.mem, devOut := t.devOut } ∧
  (∀ use a, a ≠ ea → memRead use a t = memRead use a s) ∧
  (kindOf s.cfg ea = .ram → t.devOut = s.devOut ∧ ∀ use, memRead use ea t = v) ∧
  (kindOf s.cfg ea = .io → t.mem = s.mem ∧ t.devOut = (ea.toNat, v) :: s.devOut) ∧
  (kindOf s.cfg ea = .rom ∨ kindOf s.cfg ea = .unmapped → t = s)

/-- `t` is `s` after the three pushes of an exception entry (60_exceptions.md R251, R257): the high byte of the return address at
S, its low byte below, the status byte with the bit 4 given below that, each in page one, each S mod 256; nothing else. S, the
flags and PC still stand as before. -/
def Entered (ret : Nat) (b4 : Bool) (s t : State) : Prop :=
  ∃ t1 t2,
    Wrote (stackByte s.sp) (byteMod (ret % 65536 / 256)) s t1 ∧
    Wrote (stackByte (down s.sp 1)) (byteMod ret) t1 t2 ∧
    Wrote (stackByte (down s.sp 2)) (statusByte s.cfg.bit5Pushed b4 s.p) t2 t

/-- Every byte of page one is RAM. -/
def StackIsRam (s : State) : Prop := ∀ sp : Byte, kindOf s.cfg (stackByte sp) = .ram

/-- Both nibbles are 0 to 9 (47_arithmetic.md R192). -/
def IsBcd (b : Byte) : Prop := b.toNat / 16 ≤ 9 ∧ b.toNat % 16 ≤ 9

/-- `bcd(b)` (R192). -/
def decimal (b : Byte) : Nat := b.toNat / 16 * 10 + b.toNat % 16

/-- `tobcd(n)` (R192). -/
def decimalByte (n : Nat) : Byte := byteMod (n / 10 * 16 + n % 10)

/-- The byte as a signed number (00_scope.md R10). -/
def signed (b : Byte) : Int := if b.toNat < 128 then b.toNat else (b.toNat : Int) - 256

/-- What a compare leaves in C, Z and N (46_logical_compare.md R189). -/
def compared (r m : Byte) (f : Flags) : Flags :=
  { f with
    c := decide (m.toNat ≤ r.toNat)
    z := decide (r = m)
    n := decide (128 ≤ (r.toNat + 256 - m.toNat) % 256) }

/-- The cycles of an instruction that reads its operand, by address mode, but for the cycle of decimal mode: the table of
70_reset_and_hazards.md R291, and one more where indexing leaves the page of the base (R292). -/
def readCycles (o : Operand) (s : State) : Nat :=
  match o with
  | .imm _ => 2
  | .mem (.zp _) => 3
  | .mem (.zpX _) => 4
  | .mem (.zpY _) => 4
  | .mem (.abs _) => 4
  | .mem (.absX w) => 4 + num (decide (256 ≤ w.toNat % 256 + s.x.toNat))
  | .mem (.absY w) => 4 + num (decide (256 ≤ w.toNat % 256 + s.y.toNat))
  | .mem (.indX _) => 6
  | .mem (.indY b) => 5 + num (decide (256 ≤ (pageZeroPointer b s).toNat % 256 + s.y.toNat))
  | .mem (.ind _) => 5

/-- Run instructions one after another, each on the state the one before it leaves. -/
def execAll (is : List Instr) (s : State) : Host.Outcome State Fault Refusal :=
  match is with
  | [] => .next s
  | i :: rest =>
    match exec i s with
    | .next t => execAll rest t
    | .fault r => .fault r
    | .refused r => .refused r

/-- The law of `INC` and `DEC` in memory: one byte read at the effective address, changed, written back there, N and Z from it. -/
def ModifiesMemory (forms : List MemForm) (f : Nat → Nat) : Prop :=
  ∀ s : State, ∀ q ∈ forms, opcodeOf q.instr = q.opcode ∧
    ∃ t, Wrote (effAddr q.mode s) (byteMod (f (memRead .data (effAddr q.mode s) s).toNat)) s t ∧
      exec q.instr s = .next { t with
        p := withNZ (byteMod (f (memRead .data (effAddr q.mode s) s).toNat)) s.p, pc := pcAfter s q.len }

/-- The law of a shift (45_shift_rotate.md R174): `f` of the operand and the old carry is the result, bit `k` of the operand the
new carry; in the accumulator form A is operand and destination, in the memory forms the byte at the effective address. -/
def Shifts (acc : Instr) (accOpcode : Byte) (forms : List MemForm) (f : Nat → Nat → Nat) (k : Nat) : Prop :=
  (∀ s : State, opcodeOf acc = accOpcode ∧ exec acc s = .next { s with
    a := byteMod (f s.a.toNat (num s.p.c))
    p := withNZ (byteMod (f s.a.toNat (num s.p.c))) { s.p with c := bit s.a k }
    pc := pcAfter s 1 }) ∧
  (∀ s : State, ∀ q ∈ forms, opcodeOf q.instr = q.opcode ∧
    ∃ t, Wrote (effAddr q.mode s) (byteMod (f (memRead .data (effAddr q.mode s) s).toNat (num s.p.c))) s t ∧
      exec q.instr s = .next { t with
        p := withNZ (byteMod (f (memRead .data (effAddr q.mode s) s).toNat (num s.p.c)))
          { s.p with c := bit (memRead .data (effAddr q.mode s) s) k }
        pc := pcAfter s q.len })

/-- The law of a store (41_load_store.md): the byte `v` of the state goes to the effective address, no flag changes. -/
def Stores (forms : List MemForm) (v : State → Byte) : Prop :=
  ∀ s : State, ∀ q ∈ forms, opcodeOf q.instr = q.opcode ∧
    ∃ t, Wrote (effAddr q.mode s) (v s) s t ∧ exec q.instr s = .next { t with pc := pcAfter s q.len }

/-- The law of a logical operation (46_logical_compare.md R180 to R182). -/
def Combines (forms : List Form) (f : Byte → Byte → Byte) : Prop :=
  ∀ s : State, ∀ q ∈ forms, opcodeOf q.instr = q.opcode ∧
    exec q.instr s = .next { s with
      a := f s.a (operandByte q.operand s), p := withNZ (f s.a (operandByte q.operand s)) s.p, pc := pcAfter s q.len }

/-- The law of a compare (R184 to R186). -/
def Compares (forms : List Form) (r : State → Byte) : Prop :=
  ∀ s : State, ∀ q ∈ forms, opcodeOf q.instr = q.opcode ∧
    exec q.instr s = .next { s with p := compared (r s) (operandByte q.operand s) s.p, pc := pcAfter s q.len }

/-- The law of `TRB` and `TSB` (R187, R188): Z from A and the byte read, `f` of both written back. -/
def TestsAndModifies (forms : List MemForm) (f : Byte → Byte → Byte) : Prop :=
  ∀ s : State, ∀ q ∈ forms, opcodeOf q.instr = q.opcode ∧
    ∃ t, Wrote (effAddr q.mode s) (f s.a (memRead .data (effAddr q.mode s) s)) s t ∧
      exec q.instr s = .next { t with
        p := { s.p with z := decide ((s.a &&& memRead .data (effAddr q.mode s) s).toNat = 0) }, pc := pcAfter s q.len }

/-- The conditional branches and `BRA`: opcode, instruction, whether the branch is taken (48_control_flow.md R207 to R215). -/
def branchForms (d : Byte) (f : Flags) : List (Byte × Instr × Bool) :=
  [(0x90, .bcc d, !f.c), (0xB0, .bcs d, f.c), (0xF0, .beq d, f.z), (0xD0, .bne d, !f.z), (0x30, .bmi d, f.n),
   (0x10, .bpl d, !f.n), (0x50, .bvc d, !f.v), (0x70, .bvs d, f.v), (0x80, .bra d, true)]

/-- Opcode, instruction and the flags it leaves (49_status_system.md R220 to R226). -/
def flagForms (f : Flags) : List (Byte × Instr × Flags) :=
  [(0x18, .clc, { f with c := false }), (0xD8, .cld, { f with d := false }), (0x58, .cli, { f with i := false }),
   (0xB8, .clv, { f with v := false }), (0x38, .sec, { f with c := true }), (0xF8, .sed, { f with d := true }),
   (0x78, .sei, { f with i := true })]

/-- The pushes of a register: opcode, instruction, the byte pushed (43_stack.md R153, R155, R156). -/
def pushForms (s : State) : List (Byte × Instr × Byte) := [(0x48, .pha, s.a), (0xDA, .phx, s.x), (0x5A, .phy, s.y)]

/-- The pulls of a register: opcode, instruction, the register written (R157, R159, R149). -/
def pullForms : List (Byte × Instr × (Byte → State → State)) :=
  [(0x68, .pla, fun v s => { s with a := v }), (0xFA, .plx, fun v s => { s with x := v }),
   (0x7A, .ply, fun v s => { s with y := v })]

/-- The mnemonics that store to memory or push (20_memory.md R56), those with an accumulator form included. -/
def memoryWriters : List Mnemonic :=
  [.sta, .stx, .sty, .stz, .inc, .dec, .asl, .lsr, .rol, .ror, .trb, .tsb, .pha, .php, .phx, .phy, .jsr, .brk]

/-- The six accumulator forms (40_address_modes.md R103). -/
def accumulatorForms : List Instr := [.aslA, .lsrA, .rolA, .rorA, .incA, .decA]

/-- The instructions that load PC otherwise than by going on (10_state.md R26). -/
def controlTransfers : List Mnemonic :=
  [.jmp, .jsr, .rts, .rti, .brk, .bcc, .bcs, .beq, .bmi, .bne, .bpl, .bra, .bvc, .bvs]

/-- The mnemonics that write N in every mode (10_state.md R36), `BIT` included. -/
def writersOfN : List Mnemonic :=
  [.adc, .sbc, .asl, .lsr, .rol, .ror, .cmp, .cpx, .cpy, .bit, .and, .eor, .ora, .lda, .ldx, .ldy, .inc, .dec, .inx, .iny,
   .dex, .dey, .pla, .plx, .ply, .tax, .tay, .tsx, .txa, .tya, .plp, .rti]

/-- The rows of `LDA` (R130), `b` and `w` any operand. -/
def ldaForms (b : Byte) (w : Addr) : List Form :=
  [⟨0xA1, Instr.ldaIndX b, .mem (.indX b), 2⟩, ⟨0xA5, Instr.ldaZp b, .mem (.zp b), 2⟩,
   ⟨0xA9, Instr.ldaImm b, .imm b, 2⟩, ⟨0xAD, Instr.ldaAbs w, .mem (.abs w), 3⟩,
   ⟨0xB1, Instr.ldaIndY b, .mem (.indY b), 2⟩, ⟨0xB2, Instr.ldaInd b, .mem (.ind b), 2⟩,
   ⟨0xB5, Instr.ldaZpX b, .mem (.zpX b), 2⟩, ⟨0xB9, Instr.ldaAbsY w, .mem (.absY w), 3⟩,
   ⟨0xBD, Instr.ldaAbsX w, .mem (.absX w), 3⟩]

/-- The rows of `LDX` (R131). -/
def ldxForms (b : Byte) (w : Addr) : List Form :=
  [⟨0xA2, Instr.ldxImm b, .imm b, 2⟩, ⟨0xA6, Instr.ldxZp b, .mem (.zp b), 2⟩,
   ⟨0xAE, Instr.ldxAbs w, .mem (.abs w), 3⟩, ⟨0xB6, Instr.ldxZpY b, .mem (.zpY b), 2⟩,
   ⟨0xBE, Instr.ldxAbsY w, .mem (.absY w), 3⟩]

/-- The rows of `LDY` (R132). -/
def ldyForms (b : Byte) (w : Addr) : List Form :=
  [⟨0xA0, Instr.ldyImm b, .imm b, 2⟩, ⟨0xA4, Instr.ldyZp b, .mem (.zp b), 2⟩,
   ⟨0xAC, Instr.ldyAbs w, .mem (.abs w), 3⟩, ⟨0xB4, Instr.ldyZpX b, .mem (.zpX b), 2⟩,
   ⟨0xBC, Instr.ldyAbsX w, .mem (.absX w), 3⟩]

/-- The rows of `STA` (R133). -/
def staForms (b : Byte) (w : Addr) : List MemForm :=
  [⟨0x81, Instr.staIndX b, .indX b, 2⟩, ⟨0x85, Instr.staZp b, .zp b, 2⟩, ⟨0x8D, Instr.staAbs w, .abs w, 3⟩,
   ⟨0x91, Instr.staIndY b, .indY b, 2⟩, ⟨0x92, Instr.staInd b, .ind b, 2⟩, ⟨0x95, Instr.staZpX b, .zpX b, 2⟩,
   ⟨0x99, Instr.staAbsY w, .absY w, 3⟩, ⟨0x9D, Instr.staAbsX w, .absX w, 3⟩]

/-- The rows of `STX` (R134). -/
def stxForms (b : Byte) (w : Addr) : List MemForm :=
  [⟨0x86, Instr.stxZp b, .zp b, 2⟩, ⟨0x8E, Instr.stxAbs w, .abs w, 3⟩, ⟨0x96, Instr.stxZpY b, .zpY b, 2⟩]

/-- The rows of `STY` (R135). -/
def styForms (b : Byte) (w : Addr) : List MemForm :=
  [⟨0x84, Instr.styZp b, .zp b, 2⟩, ⟨0x8C, Instr.styAbs w, .abs w, 3⟩, ⟨0x94, Instr.styZpX b, .zpX b, 2⟩]

/-- The rows of `STZ` (R136). -/
def stzForms (b : Byte) (w : Addr) : List MemForm :=
  [⟨0x64, Instr.stzZp b, .zp b, 2⟩, ⟨0x74, Instr.stzZpX b, .zpX b, 2⟩, ⟨0x9C, Instr.stzAbs w, .abs w, 3⟩,
   ⟨0x9E, Instr.stzAbsX w, .absX w, 3⟩]

/-- The memory rows of `INC` (R160). -/
def incForms (b : Byte) (w : Addr) : List MemForm :=
  [⟨0xE6, Instr.incZp b, .zp b, 2⟩, ⟨0xEE, Instr.incAbs w, .abs w, 3⟩, ⟨0xF6, Instr.incZpX b, .zpX b, 2⟩,
   ⟨0xFE, Instr.incAbsX w, .absX w, 3⟩]

/-- The memory rows of `DEC` (R161). -/
def decForms (b : Byte) (w : Addr) : List MemForm :=
  [⟨0xC6, Instr.decZp b, .zp b, 2⟩, ⟨0xCE, Instr.decAbs w, .abs w, 3⟩, ⟨0xD6, Instr.decZpX b, .zpX b, 2⟩,
   ⟨0xDE, Instr.decAbsX w, .absX w, 3⟩]

/-- The memory rows of `ASL` (R170). -/
def aslForms (b : Byte) (w : Addr) : List MemForm :=
  [⟨0x06, Instr.aslZp b, .zp b, 2⟩, ⟨0x0E, Instr.aslAbs w, .abs w, 3⟩, ⟨0x16, Instr.aslZpX b, .zpX b, 2⟩,
   ⟨0x1E, Instr.aslAbsX w, .absX w, 3⟩]

/-- The memory rows of `LSR` (R171). -/
def lsrForms (b : Byte) (w : Addr) : List MemForm :=
  [⟨0x46, Instr.lsrZp b, .zp b, 2⟩, ⟨0x4E, Instr.lsrAbs w, .abs w, 3⟩, ⟨0x56, Instr.lsrZpX b, .zpX b, 2⟩,
   ⟨0x5E, Instr.lsrAbsX w, .absX w, 3⟩]

/-- The memory rows of `ROL` (R172). -/
def rolForms (b : Byte) (w : Addr) : List MemForm :=
  [⟨0x26, Instr.rolZp b, .zp b, 2⟩, ⟨0x2E, Instr.rolAbs w, .abs w, 3⟩, ⟨0x36, Instr.rolZpX b, .zpX b, 2⟩,
   ⟨0x3E, Instr.rolAbsX w, .absX w, 3⟩]

/-- The memory rows of `ROR` (R173). -/
def rorForms (b : Byte) (w : Addr) : List MemForm :=
  [⟨0x66, Instr.rorZp b, .zp b, 2⟩, ⟨0x6E, Instr.rorAbs w, .abs w, 3⟩, ⟨0x76, Instr.rorZpX b, .zpX b, 2⟩,
   ⟨0x7E, Instr.rorAbsX w, .absX w, 3⟩]

/-- The rows of `AND` (R180). -/
def andForms (b : Byte) (w : Addr) : List Form :=
  [⟨0x21, Instr.andIndX b, .mem (.indX b), 2⟩, ⟨0x25, Instr.andZp b, .mem (.zp b), 2⟩,
   ⟨0x29, Instr.andImm b, .imm b, 2⟩, ⟨0x2D, Instr.andAbs w, .mem (.abs w), 3⟩,
   ⟨0x31, Instr.andIndY b, .mem (.indY b), 2⟩, ⟨0x32, Instr.andInd b, .mem (.ind b), 2⟩,
   ⟨0x35, Instr.andZpX b, .mem (.zpX b), 2⟩, ⟨0x39, Instr.andAbsY w, .mem (.absY w), 3⟩,
   ⟨0x3D, Instr.andAbsX w, .mem (.absX w), 3⟩]

/-- The rows of `ORA` (R181). -/
def oraForms (b : Byte) (w : Addr) : List Form :=
  [⟨0x01, Instr.oraIndX b, .mem (.indX b), 2⟩, ⟨0x05, Instr.oraZp b, .mem (.zp b), 2⟩,
   ⟨0x09, Instr.oraImm b, .imm b, 2⟩, ⟨0x0D, Instr.oraAbs w, .mem (.abs w), 3⟩,
   ⟨0x11, Instr.oraIndY b, .mem (.indY b), 2⟩, ⟨0x12, Instr.oraInd b, .mem (.ind b), 2⟩,
   ⟨0x15, Instr.oraZpX b, .mem (.zpX b), 2⟩, ⟨0x19, Instr.oraAbsY w, .mem (.absY w), 3⟩,
   ⟨0x1D, Instr.oraAbsX w, .mem (.absX w), 3⟩]

/-- The rows of `EOR` (R182). -/
def eorForms (b : Byte) (w : Addr) : List Form :=
  [⟨0x41, Instr.eorIndX b, .mem (.indX b), 2⟩, ⟨0x45, Instr.eorZp b, .mem (.zp b), 2⟩,
   ⟨0x49, Instr.eorImm b, .imm b, 2⟩, ⟨0x4D, Instr.eorAbs w, .mem (.abs w), 3⟩,
   ⟨0x51, Instr.eorIndY b, .mem (.indY b), 2⟩, ⟨0x52, Instr.eorInd b, .mem (.ind b), 2⟩,
   ⟨0x55, Instr.eorZpX b, .mem (.zpX b), 2⟩, ⟨0x59, Instr.eorAbsY w, .mem (.absY w), 3⟩,
   ⟨0x5D, Instr.eorAbsX w, .mem (.absX w), 3⟩]

/-- The memory rows of `BIT` (R183). -/
def bitForms (b : Byte) (w : Addr) : List MemForm :=
  [⟨0x24, Instr.bitZp b, .zp b, 2⟩, ⟨0x2C, Instr.bitAbs w, .abs w, 3⟩, ⟨0x34, Instr.bitZpX b, .zpX b, 2⟩,
   ⟨0x3C, Instr.bitAbsX w, .absX w, 3⟩]

/-- The rows of `CMP` (R184). -/
def cmpForms (b : Byte) (w : Addr) : List Form :=
  [⟨0xC1, Instr.cmpIndX b, .mem (.indX b), 2⟩, ⟨0xC5, Instr.cmpZp b, .mem (.zp b), 2⟩,
   ⟨0xC9, Instr.cmpImm b, .imm b, 2⟩, ⟨0xCD, Instr.cmpAbs w, .mem (.abs w), 3⟩,
   ⟨0xD1, Instr.cmpIndY b, .mem (.indY b), 2⟩, ⟨0xD2, Instr.cmpInd b, .mem (.ind b), 2⟩,
   ⟨0xD5, Instr.cmpZpX b, .mem (.zpX b), 2⟩, ⟨0xD9, Instr.cmpAbsY w, .mem (.absY w), 3⟩,
   ⟨0xDD, Instr.cmpAbsX w, .mem (.absX w), 3⟩]

/-- The rows of `CPX` (R185). -/
def cpxForms (b : Byte) (w : Addr) : List Form :=
  [⟨0xE0, Instr.cpxImm b, .imm b, 2⟩, ⟨0xE4, Instr.cpxZp b, .mem (.zp b), 2⟩,
   ⟨0xEC, Instr.cpxAbs w, .mem (.abs w), 3⟩]

/-- The rows of `CPY` (R186). -/
def cpyForms (b : Byte) (w : Addr) : List Form :=
  [⟨0xC0, Instr.cpyImm b, .imm b, 2⟩, ⟨0xC4, Instr.cpyZp b, .mem (.zp b), 2⟩,
   ⟨0xCC, Instr.cpyAbs w, .mem (.abs w), 3⟩]

/-- The rows of `TRB` (R187). -/
def trbForms (b : Byte) (w : Addr) : List MemForm :=
  [⟨0x14, Instr.trbZp b, .zp b, 2⟩, ⟨0x1C, Instr.trbAbs w, .abs w, 3⟩]

/-- The rows of `TSB` (R188). -/
def tsbForms (b : Byte) (w : Addr) : List MemForm :=
  [⟨0x04, Instr.tsbZp b, .zp b, 2⟩, ⟨0x0C, Instr.tsbAbs w, .abs w, 3⟩]

/-- The rows of `ADC` (R190). -/
def adcForms (b : Byte) (w : Addr) : List Form :=
  [⟨0x61, Instr.adcIndX b, .mem (.indX b), 2⟩, ⟨0x65, Instr.adcZp b, .mem (.zp b), 2⟩,
   ⟨0x69, Instr.adcImm b, .imm b, 2⟩, ⟨0x6D, Instr.adcAbs w, .mem (.abs w), 3⟩,
   ⟨0x71, Instr.adcIndY b, .mem (.indY b), 2⟩, ⟨0x72, Instr.adcInd b, .mem (.ind b), 2⟩,
   ⟨0x75, Instr.adcZpX b, .mem (.zpX b), 2⟩, ⟨0x79, Instr.adcAbsY w, .mem (.absY w), 3⟩,
   ⟨0x7D, Instr.adcAbsX w, .mem (.absX w), 3⟩]

/-- The rows of `SBC` (R194). -/
def sbcForms (b : Byte) (w : Addr) : List Form :=
  [⟨0xE1, Instr.sbcIndX b, .mem (.indX b), 2⟩, ⟨0xE5, Instr.sbcZp b, .mem (.zp b), 2⟩,
   ⟨0xE9, Instr.sbcImm b, .imm b, 2⟩, ⟨0xED, Instr.sbcAbs w, .mem (.abs w), 3⟩,
   ⟨0xF1, Instr.sbcIndY b, .mem (.indY b), 2⟩, ⟨0xF2, Instr.sbcInd b, .mem (.ind b), 2⟩,
   ⟨0xF5, Instr.sbcZpX b, .mem (.zpX b), 2⟩, ⟨0xF9, Instr.sbcAbsY w, .mem (.absY w), 3⟩,
   ⟨0xFD, Instr.sbcAbsX w, .mem (.absX w), 3⟩]


/-- The unused opcodes, part 1 of 6: opcode, instruction, and length under the default of NOP_LEN (30_encoding.md R91). -/
def unusedForms1 : List (Byte × Instr × Nat) :=
  [(0x02, .nop02, 2), (0x03, .nop03, 1), (0x07, .nop07, 1), (0x0B, .nop0B, 1), (0x0F, .nop0F, 1),
    (0x13, .nop13, 1), (0x17, .nop17, 1), (0x1B, .nop1B, 1), (0x1F, .nop1F, 1), (0x22, .nop22, 2),
    (0x23, .nop23, 1), (0x27, .nop27, 1), (0x2B, .nop2B, 1)]

/-- The unused opcodes, part 2 of 6: opcode, instruction, and length under the default of NOP_LEN (30_encoding.md R91). -/
def unusedForms2 : List (Byte × Instr × Nat) :=
  [(0x2F, .nop2F, 1), (0x33, .nop33, 1), (0x37, .nop37, 1), (0x3B, .nop3B, 1), (0x3F, .nop3F, 1),
    (0x42, .nop42, 2), (0x43, .nop43, 1), (0x44, .nop44, 2), (0x47, .nop47, 1), (0x4B, .nop4B, 1),
    (0x4F, .nop4F, 1), (0x53, .nop53, 1), (0x54, .nop54, 2)]

/-- The unused opcodes, part 3 of 6: opcode, instruction, and length under the default of NOP_LEN (30_encoding.md R91). -/
def unusedForms3 : List (Byte × Instr × Nat) :=
  [(0x57, .nop57, 1), (0x5B, .nop5B, 1), (0x5C, .nop5C, 3), (0x5F, .nop5F, 1), (0x62, .nop62, 2),
    (0x63, .nop63, 1), (0x67, .nop67, 1), (0x6B, .nop6B, 1), (0x6F, .nop6F, 1), (0x73, .nop73, 1),
    (0x77, .nop77, 1), (0x7B, .nop7B, 1), (0x7F, .nop7F, 1)]

/-- The unused opcodes, part 4 of 6: opcode, instruction, and length under the default of NOP_LEN (30_encoding.md R91). -/
def unusedForms4 : List (Byte × Instr × Nat) :=
  [(0x82, .nop82, 2), (0x83, .nop83, 1), (0x87, .nop87, 1), (0x8B, .nop8B, 1), (0x8F, .nop8F, 1),
    (0x93, .nop93, 1), (0x97, .nop97, 1), (0x9B, .nop9B, 1), (0x9F, .nop9F, 1), (0xA3, .nopA3, 1),
    (0xA7, .nopA7, 1), (0xAB, .nopAB, 1), (0xAF, .nopAF, 1)]

/-- The unused opcodes, part 5 of 6: opcode, instruction, and length under the default of NOP_LEN (30_encoding.md R91). -/
def unusedForms5 : List (Byte × Instr × Nat) :=
  [(0xB3, .nopB3, 1), (0xB7, .nopB7, 1), (0xBB, .nopBB, 1), (0xBF, .nopBF, 1), (0xC2, .nopC2, 2),
    (0xC3, .nopC3, 1), (0xC7, .nopC7, 1), (0xCB, .nopCB, 1), (0xCF, .nopCF, 1), (0xD3, .nopD3, 1),
    (0xD4, .nopD4, 2), (0xD7, .nopD7, 1), (0xDB, .nopDB, 1)]

/-- The unused opcodes, part 6 of 6: opcode, instruction, and length under the default of NOP_LEN (30_encoding.md R91). -/
def unusedForms6 : List (Byte × Instr × Nat) :=
  [(0xDC, .nopDC, 3), (0xDF, .nopDF, 1), (0xE2, .nopE2, 2), (0xE3, .nopE3, 1), (0xE7, .nopE7, 1),
    (0xEB, .nopEB, 1), (0xEF, .nopEF, 1), (0xF3, .nopF3, 1), (0xF4, .nopF4, 2), (0xF7, .nopF7, 1),
    (0xFB, .nopFB, 1), (0xFC, .nopFC, 3), (0xFF, .nopFF, 1)]

/-- The 78 unused opcodes (R90, R91). -/
def unusedForms : List (Byte × Instr × Nat) :=
  [unusedForms1, unusedForms2, unusedForms3, unusedForms4, unusedForms5, unusedForms6].flatten

end Sys2Proof.Claims

open Sys2Proof Sys2Proof.Machine Sys2Proof.Claims

/-- For every instruction i (all are well formed), with every operand at every value, under every table of NOP_LEN,
decoding the bytes of encode i followed by any bytes gives i and exactly those bytes. -/
def Obligations.DecodeAfterEncode : Prop :=
  ∀ (table : List NopEntry) (i : Instr) (rest : List Byte), i.WellFormed →
    decode table (encode table i ++ rest) = .ok (i, rest)

/-- If a list of bytes decodes to i and the rest, and the opcode of i is one of the 178 assigned ones, then the
encoding of i followed by the rest is the list: no bit of an assigned instruction is dropped. -/
def Obligations.EncodeAfterDecode : Prop :=
  ∀ (table : List NopEntry) (bytes rest : List Byte) (i : Instr),
    decode table bytes = .ok (i, rest) → isUnusedOpcode (opcodeOf i) = false → encode table i ++ rest = bytes

/-- Three bytes always decode, whatever follows them: the instruction has the first byte as its opcode, its length is
1, 2 or 3 under every table of NOP_LEN, the bytes left over are those after its length, it is a no-operation exactly
when the opcode is one of the unused ones, and any other operand bytes decode to an instruction of the same mnemonic
and the same length. Under the default of NOP_LEN, which the spec gives from general knowledge (log 12), the lengths
of the unused opcodes are those of the table of R91. -/
def Obligations.EveryOpcodeDecodes : Prop :=
  (∀ (table : List NopEntry) (op b1 b2 : Byte) (rest : List Byte),
    ∃ i, decode table (op :: b1 :: b2 :: rest) = .ok (i, (op :: b1 :: b2 :: rest).drop (instrLength table i)) ∧
      opcodeOf i = op ∧ 1 ≤ instrLength table i ∧ instrLength table i ≤ 3 ∧
      (isUnusedOpcode op = true ↔ i.mnemonic = .unused) ∧
      (∀ c1 c2 : Byte, ∃ j, decode table [op, c1, c2] = .ok (j, [op, c1, c2].drop (instrLength table i)) ∧
        j.mnemonic = i.mnemonic ∧ instrLength table j = instrLength table i)) ∧
  (∀ q ∈ unusedForms, nopLength defaultNopLen q.1 = q.2.2)

/-- One word of each family, its bits numbered as spec/opcode_table.json numbers them (the opcode in bits 7..0, the
first operand byte in bits 15..8, the second in bits 23..16): LDA #$80, LDX $10,Y, LDY $1234,X, STA $12FF,X, STZ
$FE,X, TXS, PHA, PLP, INC $10, DEX, ROL A, ROR $1234, AND #$3C, BIT #$C0, CMP $41, TRB $50, ADC ($FE,X), SBC ($40),Y,
EOR ($20), JMP ($12FF), JSR $3000, BNE -3, CLI, NOP, BRK, and the unused $5C. -/
def Obligations.SampleWordsDecode : Prop :=
  decodeTableWord 16 0x80A9 = some (.ldaImm 0x80) ∧ decodeTableWord 16 0x10B6 = some (.ldxZpY 0x10) ∧
  decodeTableWord 24 0x1234BC = some (.ldyAbsX 0x1234) ∧ decodeTableWord 24 0x12FF9D = some (.staAbsX 0x12FF) ∧
  decodeTableWord 16 0xFE74 = some (.stzZpX 0xFE) ∧ decodeTableWord 8 0x9A = some .txs ∧
  decodeTableWord 8 0x48 = some .pha ∧ decodeTableWord 8 0x28 = some .plp ∧
  decodeTableWord 16 0x10E6 = some (.incZp 0x10) ∧ decodeTableWord 8 0xCA = some .dex ∧
  decodeTableWord 8 0x2A = some .rolA ∧ decodeTableWord 24 0x12346E = some (.rorAbs 0x1234) ∧
  decodeTableWord 16 0x3C29 = some (.andImm 0x3C) ∧ decodeTableWord 16 0xC089 = some (.bitImm 0xC0) ∧
  decodeTableWord 16 0x41C5 = some (.cmpZp 0x41) ∧ decodeTableWord 16 0x5014 = some (.trbZp 0x50) ∧
  decodeTableWord 16 0xFE61 = some (.adcIndX 0xFE) ∧ decodeTableWord 16 0x40F1 = some (.sbcIndY 0x40) ∧
  decodeTableWord 16 0x2052 = some (.eorInd 0x20) ∧ decodeTableWord 24 0x12FF6C = some (.jmpInd 0x12FF) ∧
  decodeTableWord 24 0x300020 = some (.jsr 0x3000) ∧ decodeTableWord 16 0xFDD0 = some (.bne 0xFD) ∧
  decodeTableWord 8 0x58 = some .cli ∧ decodeTableWord 8 0xEA = some .nop ∧
  decodeTableWord 8 0x00 = some .brk ∧ decodeTableWord 8 0x5C = some .nop5C

/-- Let b be the state after the environment has acted for this step. If in b no reset is requested, no NMI is
pending, and the IRQ line is low or I is 1, and the three bytes from PC on (addresses mod 65536) decode to a
well-formed instruction i, then step at s is exec of i at b. Exec moves PC itself; step adds nothing around it. That
events are sampled before the fetch, in that order, is the spec's decision (log 21); that the environment acts at the
start of the step is the model's form (log 19). -/
def Obligations.StepRunsTheDecodedInstruction : Prop :=
  ∀ (s : State) (i : Instr) (rest : List Byte),
    (beginStep s).resetReq = false → (beginStep s).nmiPending = false →
    ((beginStep s).irqLine = false ∨ (beginStep s).p.i = true) →
    decode (beginStep s).cfg.nopLen
      [memRead .opcode (beginStep s).pc (beginStep s), memRead .op1 (addrMod ((beginStep s).pc.toNat + 1)) (beginStep s),
       memRead .op2 (addrMod ((beginStep s).pc.toNat + 2)) (beginStep s)] = .ok (i, rest) →
    i.WellFormed → step s = exec i (beginStep s)

/-- With nothing scheduled a step begins by advancing the draw index alone. With a list of inputs scheduled for this
boundary: an NMI request in the list latches nmi_pending (a second one is absorbed); the IRQ line is at the level last
driven, else as it was; the reset request likewise; V is set by a Set Overflow pulse exactly when SO_CONNECTED holds,
and no other flag changes; A, X, Y, S, PC, memory, the parameters and the device log are as they were; the schedule
loses its head and the draw index advances by 1. The schedule and the draw index are the model's own (log 19, log 20:
DESIGN CHOICE); that NMI is a one-deep latch, a second request absorbed, and IRQ a level is the spec's decision D6,
which no source states (log 21: DEDUCED); that a reset request withdrawn before the boundary leaves no trace is the
model's reading (log 31: DEDUCED). -/
def Obligations.EnvironmentActsAtTheBoundary : Prop :=
  (∀ s : State, s.inputs = [] → beginStep s = { s with draw := s.draw + 1 }) ∧
  (∀ (s : State) (now : List Input) (later : List (List Input)), s.inputs = now :: later →
    beginStep s = { s with
      draw := s.draw + 1
      inputs := later
      nmiPending := s.nmiPending || decide (Input.nmi ∈ now)
      irqLine := ((now.filterMap fun e => match e with | .irq l => some l | _ => none).getLast?).getD s.irqLine
      resetReq := ((now.filterMap fun e => match e with | .reset r => some r | _ => none).getLast?).getD s.resetReq
      p := { s.p with v := s.p.v || (s.cfg.soConnected && decide (Input.setOverflow ∈ now)) } })

/-- If a reset is requested at a boundary, the step takes it whatever else is pending: PC is the word at $FFFC, D is
0, I is RESET_I where that parameter is a bit, no NMI is pending, the request is over; nothing is written to memory or
to a device, the IRQ line, the parameters, the schedule and the draw index are as the boundary left them. A, X, Y, S
and the other flags are free (log 17); that reset comes first is the spec's decision D7 (log 21). -/
def Obligations.ResetIsTakenFirst : Prop :=
  ∀ s : State, (beginStep s).resetReq = true →
    ∃ t, step s = .next t ∧
      t.pc = vector 0xFFFC (beginStep s) ∧ t.p.d = false ∧
      (∀ i, (beginStep s).cfg.resetI = .fixed i → t.p.i = i) ∧
      t.nmiPending = false ∧ t.resetReq = false ∧
      t.mem = (beginStep s).mem ∧ t.devOut = (beginStep s).devOut ∧ t.irqLine = (beginStep s).irqLine ∧
      t.cfg = (beginStep s).cfg ∧ t.inputs = (beginStep s).inputs ∧ t.draw = (beginStep s).draw

/-- If no reset is requested and an NMI is pending at the boundary, the step pushes PC high, PC low and the status
byte with bit 4 = 0 and the old D and I, sets I, clears D, clears nmi_pending, lowers S by 3 mod 256 and loads PC from
the vector at $FFFA, read after the pushes; every other field is as the boundary left it, the live B and the IRQ line
included. The latch, the sampling and the order NMI before IRQ are the spec's decisions D6 and D7 (log 21), the
unchanged live B is D5 (log 22); that NMI too sets I and clears D is D8, read from sentences about interrupts in
general (log 23: DEDUCED, unsafe). -/
def Obligations.NmiEntry : Prop :=
  ∀ s : State, (beginStep s).resetReq = false → (beginStep s).nmiPending = true →
    ∃ t, Entered (beginStep s).pc.toNat false (beginStep s) t ∧
      step s = .next { t with
        sp := down (beginStep s).sp 3
        nmiPending := false
        p := { (beginStep s).p with i := true, d := false }
        pc := vector 0xFFFA t }

/-- If no reset is requested, no NMI is pending, the IRQ line is high and I is 0 at the boundary, the step pushes PC
high, PC low and the status byte with bit 4 = 0 and the old D and I, sets I, clears D, lowers S by 3 mod 256 and loads
PC from the vector at $FFFE, read after the pushes; every other field is as the boundary left it, the live B and the
IRQ line included. The level model and the priority are the spec's decisions D6 and D7 (log 21), the unchanged live B
is D5 (log 22). -/
def Obligations.IrqEntry : Prop :=
  ∀ s : State, (beginStep s).resetReq = false → (beginStep s).nmiPending = false →
    (beginStep s).irqLine = true → (beginStep s).p.i = false →
    ∃ t, Entered (beginStep s).pc.toNat false (beginStep s) t ∧
      step s = .next { t with
        sp := down (beginStep s).sp 3
        p := { (beginStep s).p with i := true, d := false }
        pc := vector 0xFFFE t }

/-- From every state, whatever memory holds and whatever the parameters are, the step answers a next state: the
machine is total (no access, alignment, stack or illegal-instruction fault; no instruction halts). -/
def Obligations.StepAlwaysAnswersNext : Prop :=
  ∀ s : State, Sys2Proof.Safety.Steps s

/-- For every state whose memory is in canonical form (addresses strictly rising, all below 65536, no entry equal to
what an unlisted address reads as: the model's own form, log 6), if a step answers a next state, that state's memory
is in canonical form. -/
def Obligations.StepKeepsMemoryCanonical : Prop :=
  ∀ s t : State, Sys2Proof.Safety.Inv s → Sys2Proof.Machine.step s = .next t → Sys2Proof.Safety.Inv t

/-- The invariant that every step keeps (memory in canonical form, addresses below 65536) holds of the state right
after reset. The canonical form and the empty memory of State.reset are the model's own (log 6: DESIGN CHOICE). -/
def Obligations.ResetStateMeetsInvariant : Prop :=
  Sys2Proof.Safety.Inv Sys2Proof.Machine.State.reset

/-- In State.reset PC is the word stored at $FFFC and $FFFD of its memory, D is 0 and no NMI is pending, as R41 says;
I is 1, the default of RESET_I, which the spec marks as general knowledge (log 4); nothing is requested or driven (log
5) and nothing is listed in memory (log 6). The registers the spec leaves unspecified are not spoken of. -/
def Obligations.ResetStateValues : Prop :=
  State.reset.pc = wordOf (Memory.load State.reset.mem 0xFFFC) (Memory.load State.reset.mem 0xFFFD) ∧
  State.reset.p.d = false ∧ State.reset.nmiPending = false ∧ State.reset.p.i = true ∧
  State.reset.cfg.resetI = .fixed true ∧ State.reset.resetReq = false ∧ State.reset.irqLine = false ∧
  State.reset.mem = []

/-- Every step answers a next state in which the parameters are the same, every address that is not RAM (ROM, device,
unmapped) holds in memory what it held, and the device log is the old one with at most three entries before it, each
for an address of a device region. The device log and holding the parameters in State are the model's (log 9, log 18).
-/
def Obligations.StepKeepsParametersAndRom : Prop :=
  ∀ s : State, ∃ t, step s = .next t ∧ t.cfg = s.cfg ∧
    (∀ a : Addr, kindOf s.cfg a ≠ .ram → t.mem.load a.toNat = s.mem.load a.toNat) ∧
    (∃ l, t.devOut = l ++ s.devOut ∧ l.length ≤ 3 ∧ ∀ c ∈ l, ∃ a : Addr, c.1 = a.toNat ∧ kindOf s.cfg a = .io)

/-- RAM and ROM answer the byte memory holds. A device or unmapped address answers a free value of the step, the read
and the address and of nothing else (log 8): the opaque constant busByte applied to the draw index (log 20), the use
and the address, whatever memory and the registers hold. With no region listed every address is RAM (the default, log
7); the first listed region that holds an address decides its kind. -/
def Obligations.MemoryMapDecidesReads : Prop :=
  (∀ (s : State) (use : BusRead) (a : Addr), kindOf s.cfg a = .ram ∨ kindOf s.cfg a = .rom →
    memRead use a s = s.mem.load a.toNat) ∧
  (∀ (s : State) (use : BusRead) (a : Addr), kindOf s.cfg a = .io ∨ kindOf s.cfg a = .unmapped →
    memRead use a s = Config.busByte s.draw use a) ∧
  (∀ (s : State) (use : BusRead) (a : Addr) (m : Memory), kindOf s.cfg a = .io ∨ kindOf s.cfg a = .unmapped →
    memRead use a { s with mem := m } = memRead use a s) ∧
  (∀ (cfg : Config) (a : Addr), cfg.memMap = [] → kindOf cfg a = .ram) ∧
  (∀ (cfg : Config) (r : Region) (rest : List Region) (a : Addr), cfg.memMap = r :: rest →
    kindOf cfg a = if r.first.toNat ≤ a.toNat ∧ a.toNat ≤ r.last.toNat then r.kind
      else kindOf { cfg with memMap := rest } a)

/-- For every state, address and byte: after MemWrite RAM at the address reads as the byte, every other address reads
as before, ROM and unmapped addresses ignore the write, a device is handed the byte (recorded in the device log, log
9), and no register, flag or other field changes. -/
def Obligations.WriteThenRead : Prop :=
  ∀ (s : State) (a : Addr) (v : Byte), Wrote a v s (memWrite a v s)

/-- EA of Zero Page is $00 ## op1, of Zero Page X-Indexed $00 ## ((op1 + X) mod 256), likewise with Y; a zero-page
pointer takes its low byte from $00 ## z and its high byte from $00 ## ((z + 1) mod 256); EA of (addr8i,X) is the
pointer at (op1 + X) mod 256, of (addr8i) the pointer at op1. Each of these forms is two bytes long, and $00 ## b is
at most 255. That a pointer at $FF takes its high byte from $00 is the spec's own reading (decision D3, log 24:
DEDUCED). -/
def Obligations.ZeroPageAddresses : Prop :=
  (∀ (z : Byte) (s : State), memReadPointer z s = pageZeroPointer z s) ∧
  ∀ (b : Byte) (s : State),
    effAddr (.zp b) s = pageZero b ∧
    effAddr (.zpX b) s = pageZero (byteMod (b.toNat + s.x.toNat)) ∧
    effAddr (.zpY b) s = pageZero (byteMod (b.toNat + s.y.toNat)) ∧
    effAddr (.indX b) s = pageZeroPointer (byteMod (b.toNat + s.x.toNat)) s ∧
    effAddr (.ind b) s = pageZeroPointer b s ∧
    (pageZero b).toNat ≤ 255 ∧
    modeLength (.zp b) = 2 ∧ modeLength (.zpX b) = 2 ∧ modeLength (.zpY b) = 2 ∧
    modeLength (.indX b) = 2 ∧ modeLength (.ind b) = 2

/-- EA of Absolute is the operand, of Absolute X- and Y-Indexed the operand plus X or Y, unsigned, with the carry into
the page, mod 65536, and three bytes long; EA of (addr8i),Y is the zero-page pointer at op1 plus Y mod 65536, and two
bytes long (the wrap at the top is the spec's decision D2, log 24). The operand byte M of an immediate form is op1 and
the form two bytes long; of any memory form it is the byte read at EA. -/
def Obligations.AddressesWithCarryAndOperands : Prop :=
  (∀ (w : Addr) (s : State),
    effAddr (.abs w) s = w ∧
    effAddr (.absX w) s = addrMod (w.toNat + s.x.toNat) ∧
    effAddr (.absY w) s = addrMod (w.toNat + s.y.toNat) ∧
    modeLength (.abs w) = 3 ∧ modeLength (.absX w) = 3 ∧ modeLength (.absY w) = 3) ∧
  (∀ (b : Byte) (s : State),
    effAddr (.indY b) s = addrMod ((pageZeroPointer b s).toNat + s.y.toNat) ∧ modeLength (.indY b) = 2) ∧
  (∀ (v : Byte) (s : State), operandByte (.imm v) s = v ∧ operandLength (.imm v) = 2) ∧
  (∀ (m : MemMode) (s : State), operandByte (.mem m) s = memRead .data (effAddr m s) s ∧
    operandLength (.mem m) = modeLength m)

/-- For each of the nine rows of LDA and every operand, exec answers the next state in which A is the operand byte M,
N is bit 7 of it, Z says it is zero, PC has advanced by the length mod 65536, and every other register, flag, memory
byte and field is as it was; the opcode is the row's. -/
def Obligations.LdaLoadsAccumulator : Prop :=
  ∀ (b : Byte) (w : Addr) (s : State), ∀ q ∈ ldaForms b w, opcodeOf q.instr = q.opcode ∧
    exec q.instr s = .next { s with
      a := operandByte q.operand s, p := withNZ (operandByte q.operand s) s.p, pc := pcAfter s q.len }

/-- For each row of LDX (indexed by Y) and of LDY (indexed by X) and every operand, exec answers the next state in
which X, or Y, is the operand byte, N is bit 7 of it, Z says it is zero, PC has advanced by the length, and everything
else is as it was; the opcode is the row's. -/
def Obligations.LdxLdyLoadIndex : Prop :=
  ∀ (b : Byte) (w : Addr) (s : State),
    (∀ q ∈ ldxForms b w, opcodeOf q.instr = q.opcode ∧
      exec q.instr s = .next { s with
        x := operandByte q.operand s, p := withNZ (operandByte q.operand s) s.p, pc := pcAfter s q.len }) ∧
    (∀ q ∈ ldyForms b w, opcodeOf q.instr = q.opcode ∧
      exec q.instr s = .next { s with
        y := operandByte q.operand s, p := withNZ (operandByte q.operand s) s.p, pc := pcAfter s q.len })

/-- For each of the eight rows of STA and every operand, exec answers a next state that differs from s in PC, advanced
by the length, and in the byte at EA(mode) alone, which is A if it is RAM; every address other than EA(mode) reads as
before; the opcode is the row's. -/
def Obligations.StaStoresAccumulator : Prop :=
  ∀ (b : Byte) (w : Addr), Stores (staForms b w) (fun s => s.a)

/-- For each row of STX, STY and STZ and every operand, exec answers a next state that differs from s in PC, advanced
by the length, and in the byte at EA(mode) alone, which is X, Y or $00 if it is RAM; every other address reads as
before; in particular STZ leaves Z alone; the opcode is the row's. -/
def Obligations.StxStyStzStore : Prop :=
  ∀ (b : Byte) (w : Addr),
    Stores (stxForms b w) (fun s => s.x) ∧ Stores (styForms b w) (fun s => s.y) ∧ Stores (stzForms b w) (fun _ => 0)

/-- Each transfer answers the next state in which the destination holds the source, N and Z are those of the value
transferred (TXS leaves every flag alone), PC has advanced by 1 and everything else is as it was, the source included;
the opcodes are AA, A8, 8A, 98, BA and 9A. -/
def Obligations.TransfersMoveOneRegister : Prop :=
  ∀ s : State,
    (opcodeOf .tax = 0xAA ∧ exec .tax s = .next { s with x := s.a, p := withNZ s.a s.p, pc := pcAfter s 1 }) ∧
    (opcodeOf .tay = 0xA8 ∧ exec .tay s = .next { s with y := s.a, p := withNZ s.a s.p, pc := pcAfter s 1 }) ∧
    (opcodeOf .txa = 0x8A ∧ exec .txa s = .next { s with a := s.x, p := withNZ s.x s.p, pc := pcAfter s 1 }) ∧
    (opcodeOf .tya = 0x98 ∧ exec .tya s = .next { s with a := s.y, p := withNZ s.y s.p, pc := pcAfter s 1 }) ∧
    (opcodeOf .tsx = 0xBA ∧ exec .tsx s = .next { s with x := s.sp, p := withNZ s.sp s.p, pc := pcAfter s 1 }) ∧
    (opcodeOf .txs = 0x9A ∧ exec .txs s = .next { s with sp := s.x, pc := pcAfter s 1 })

/-- Each push answers a next state in which the byte at $01 ## S is the register (if it is RAM), S is one less mod
256, PC has advanced by 1, every other address reads as before, and every other register and every flag is as it was;
the opcodes are 48, DA and 5A. -/
def Obligations.PushesOfARegister : Prop :=
  ∀ s : State, ∀ q ∈ pushForms s, opcodeOf q.2.1 = q.1 ∧
    ∃ t, Wrote (stackByte s.sp) q.2.2 s t ∧ exec q.2.1 s = .next { t with sp := down s.sp 1, pc := pcAfter s 1 }

/-- PHP answers a next state in which the byte at $01 ## S is N V BIT5_PUSHED b4 D I Z C (if it is RAM), b4 being the
stored B, or 1 under B_MODEL = phantom; S is one less mod 256, PC has advanced by 1, every other address reads as
before, every other register and every flag is as it was; the opcode is 08. -/
def Obligations.PhpPushesStatus : Prop :=
  ∀ s : State, opcodeOf .php = 0x08 ∧
    ∃ t, Wrote (stackByte s.sp)
        (statusByte s.cfg.bit5Pushed (if s.cfg.bModel = .stored then s.p.b else true) s.p) s t ∧
      exec .php s = .next { t with sp := down s.sp 1, pc := pcAfter s 1 }

/-- Each pull answers the next state in which S is one more mod 256, the register is the byte read at $01 ## (the new
S), N and Z are those of that byte, PC has advanced by 1 and everything else is as it was, memory included; the
opcodes are 68, FA and 7A. -/
def Obligations.PullsOfARegister : Prop :=
  ∀ s : State, ∀ q ∈ pullForms, opcodeOf q.2.1 = q.1 ∧
    exec q.2.1 s = .next (q.2.2 (memRead .pull1 (stackByte (up s.sp 1)) s)
      { s with sp := up s.sp 1, p := withNZ (memRead .pull1 (stackByte (up s.sp 1)) s) s.p, pc := pcAfter s 1 })

/-- PLP answers the next state in which S is one more mod 256, the flags N V B D I Z C are bits 7 6 4 3 2 1 0 of the
byte read at $01 ## (the new S) (under B_MODEL = phantom bit 4 is ignored), PC has advanced by 1 and everything else
is as it was; the opcode is 28. -/
def Obligations.PlpPullsStatus : Prop :=
  ∀ s : State, opcodeOf .plp = 0x28 ∧
    exec .plp s = .next { s with
      sp := up s.sp 1, p := unpacked s.cfg (memRead .pull1 (stackByte (up s.sp 1)) s) s.p, pc := pcAfter s 1 }

/-- Each answers the next state in which X or Y is one more or one less mod 256, N and Z are those of the result, PC
has advanced by 1 and everything else is as it was; the opcodes are E8, C8, CA and 88. -/
def Obligations.InxInyDexDeyStepAnIndex : Prop :=
  ∀ s : State,
    (opcodeOf .inx = 0xE8 ∧ exec .inx s = .next { s with
      x := byteMod (s.x.toNat + 1), p := withNZ (byteMod (s.x.toNat + 1)) s.p, pc := pcAfter s 1 }) ∧
    (opcodeOf .iny = 0xC8 ∧ exec .iny s = .next { s with
      y := byteMod (s.y.toNat + 1), p := withNZ (byteMod (s.y.toNat + 1)) s.p, pc := pcAfter s 1 }) ∧
    (opcodeOf .dex = 0xCA ∧ exec .dex s = .next { s with
      x := byteMod (s.x.toNat + 255), p := withNZ (byteMod (s.x.toNat + 255)) s.p, pc := pcAfter s 1 }) ∧
    (opcodeOf .dey = 0x88 ∧ exec .dey s = .next { s with
      y := byteMod (s.y.toNat + 255), p := withNZ (byteMod (s.y.toNat + 255)) s.p, pc := pcAfter s 1 })

/-- In accumulator mode A is one more or one less mod 256; in the memory modes the byte at EA(mode), read once, is
written back to the same address one more or one less mod 256 and every other address reads as before; N and Z are
those of the result, PC has advanced by the length, and everything else is as it was; the opcodes are the rows' (1A
and 3A in accumulator mode). -/
def Obligations.IncDecChangeByOne : Prop :=
  (∀ s : State,
    (opcodeOf .incA = 0x1A ∧ exec .incA s = .next { s with
      a := byteMod (s.a.toNat + 1), p := withNZ (byteMod (s.a.toNat + 1)) s.p, pc := pcAfter s 1 }) ∧
    (opcodeOf .decA = 0x3A ∧ exec .decA s = .next { s with
      a := byteMod (s.a.toNat + 255), p := withNZ (byteMod (s.a.toNat + 255)) s.p, pc := pcAfter s 1 })) ∧
  (∀ (b : Byte) (w : Addr), ModifiesMemory (incForms b w) (fun v => v + 1)) ∧
  (∀ (b : Byte) (w : Addr), ModifiesMemory (decForms b w) (fun v => v + 255))

/-- ASL: the result is twice the operand mod 256, C is bit 7 of the operand. LSR: the result is half the operand,
rounded down, C is bit 0. The operand is A, or the byte at EA(mode), read once and written back there, every other
address reading as before; N and Z are those of the result, PC has advanced by the length and everything else is as it
was; the opcodes are the rows'. -/
def Obligations.AslLsrShift : Prop :=
  ∀ (b : Byte) (w : Addr),
    Shifts .aslA 0x0A (aslForms b w) (fun v _ => 2 * v) 7 ∧ Shifts .lsrA 0x4A (lsrForms b w) (fun v _ => v / 2) 0

/-- ROL: the result is twice the operand mod 256 plus the old carry, C is bit 7 of the operand. ROR: the result is
half the operand plus 128 times the old carry, C is bit 0. The operand is A, or the byte at EA(mode), read once and
written back there, every other address reading as before; N and Z are those of the result, PC has advanced by the
length and everything else is as it was; the opcodes are the rows'. -/
def Obligations.RolRorRotate : Prop :=
  ∀ (b : Byte) (w : Addr),
    Shifts .rolA 0x2A (rolForms b w) (fun v c => 2 * v + c) 7 ∧ Shifts .rorA 0x6A (rorForms b w) (fun v c => v / 2 + 128 * c) 0

/-- Nine ROL A in a row answer a next state whose A and C are those of the start (a 9-bit rotation of C ## A), and ROL
A followed by ROR A restores A and C as well; in both, no register but PC and no flag but N and Z differs from the
start. -/
def Obligations.NineRotationsRestore : Prop :=
  ∀ s : State,
    (∃ f : Flags, execAll (List.replicate 9 .rolA) s =
      .next { s with p := { s.p with n := f.n, z := f.z }, pc := pcAfter s 9 }) ∧
    (∃ f : Flags, execAll [.rolA, .rorA] s = .next { s with p := { s.p with n := f.n, z := f.z }, pc := pcAfter s 2 })

/-- For each row and every operand, exec answers the next state in which A is the bitwise AND, OR or exclusive OR of A
and the operand byte, N and Z are those of the result, PC has advanced by the length and everything else is as it was,
memory included; the opcodes are the rows'. -/
def Obligations.AndOraEorCombine : Prop :=
  ∀ (b : Byte) (w : Addr),
    Combines (andForms b w) (fun a m => a &&& m) ∧ Combines (oraForms b w) (fun a m => a ||| m) ∧
    Combines (eorForms b w) (fun a m => a ^^^ m)

/-- In the four memory modes exec answers the next state in which Z says that A AND M is zero, N is bit 7 and V bit 6
of M, PC has advanced by the length and everything else is as it was, A and memory included; in immediate mode Z alone
changes beside PC; the opcodes are the rows' (89 in immediate mode). -/
def Obligations.BitTestsOnly : Prop :=
  ∀ (b : Byte) (w : Addr) (s : State),
    (∀ q ∈ bitForms b w, opcodeOf q.instr = q.opcode ∧
      exec q.instr s = .next { s with
        p := { s.p with
          z := decide ((s.a &&& memRead .data (effAddr q.mode s) s).toNat = 0)
          n := bit (memRead .data (effAddr q.mode s) s) 7
          v := bit (memRead .data (effAddr q.mode s) s) 6 }
        pc := pcAfter s q.len }) ∧
    opcodeOf (.bitImm b) = 0x89 ∧
    exec (.bitImm b) s = .next { s with p := { s.p with z := decide ((s.a &&& b).toNat = 0) }, pc := pcAfter s 2 }

/-- For each row of CMP (A), CPX (X) and CPY (Y) and every operand, exec answers the next state in which C says that
the register is at least the operand, unsigned, Z that they are equal, N is bit 7 of their difference mod 256, PC has
advanced by the length and everything else is as it was, V and the register included, whatever D and C held; the
opcodes are the rows'. -/
def Obligations.ComparesSetFlags : Prop :=
  ∀ (b : Byte) (w : Addr),
    Compares (cmpForms b w) (fun s => s.a) ∧ Compares (cpxForms b w) (fun s => s.x) ∧ Compares (cpyForms b w) (fun s => s.y)

/-- For each row and every operand, with m the byte read at EA(mode): exec answers a next state in which Z says that A
AND m is zero, the byte at EA(mode) is (NOT A) AND m, or A OR m, every other address reads as before, PC has advanced
by the length, and every register and other flag is as it was; the opcodes are the rows'. -/
def Obligations.TrbTsbTestAndModify : Prop :=
  ∀ (b : Byte) (w : Addr),
    TestsAndModifies (trbForms b w) (fun a m => byteMod (255 - a.toNat) &&& m) ∧
    TestsAndModifies (tsbForms b w) (fun a m => a ||| m)

/-- With D = 0, for each row of ADC and every operand: exec answers the next state in which A is A + M + C mod 256, C
says that the sum reached 256, V that signed A + signed M + C lies outside -128 to 127, N and Z are those of the
result, PC has advanced by the length and everything else is as it was; the opcodes are the rows'. -/
def Obligations.AdcBinary : Prop :=
  ∀ (b : Byte) (w : Addr) (s : State), s.p.d = false → ∀ q ∈ adcForms b w, opcodeOf q.instr = q.opcode ∧
    exec q.instr s = .next { s with
      a := byteMod (s.a.toNat + (operandByte q.operand s).toNat + num s.p.c)
      p := withNZ (byteMod (s.a.toNat + (operandByte q.operand s).toNat + num s.p.c)) { s.p with
        c := decide (256 ≤ s.a.toNat + (operandByte q.operand s).toNat + num s.p.c)
        v := decide (signed s.a + signed (operandByte q.operand s) + num s.p.c < -128 ∨
          127 < signed s.a + signed (operandByte q.operand s) + num s.p.c) }
      pc := pcAfter s q.len }

/-- With D = 1 and A and M both valid BCD, for each row of ADC: exec answers a next state in which A is the BCD byte
of (A + M + C mod 100), C says that the decimal sum reached 100, N and Z are those of the byte left in A, V is some
bit (a free value, log 14), PC has advanced by the length and everything else is as it was. -/
def Obligations.AdcDecimal : Prop :=
  ∀ (b : Byte) (w : Addr) (s : State), s.p.d = true → ∀ q ∈ adcForms b w,
    IsBcd s.a → IsBcd (operandByte q.operand s) → ∃ v : Bool,
      exec q.instr s = .next { s with
        a := decimalByte ((decimal s.a + decimal (operandByte q.operand s) + num s.p.c) % 100)
        p := withNZ (decimalByte ((decimal s.a + decimal (operandByte q.operand s) + num s.p.c) % 100)) { s.p with
          c := decide (100 ≤ decimal s.a + decimal (operandByte q.operand s) + num s.p.c), v := v }
        pc := pcAfter s q.len }

/-- With D = 0, for each row of SBC and every operand: exec answers the next state in which A is A - M - (1 - C) mod
256, C says that no borrow was required, V that the signed difference lies outside -128 to 127, N and Z are those of
the result, PC has advanced by the length and everything else is as it was; the opcodes are the rows'. And SubBin(a,
m, cin) is AddBin(a, NOT m, cin). -/
def Obligations.SbcBinary : Prop :=
  (∀ (b : Byte) (w : Addr) (s : State), s.p.d = false → ∀ q ∈ sbcForms b w, opcodeOf q.instr = q.opcode ∧
    exec q.instr s = .next { s with
      a := byteMod (s.a.toNat + 255 + num s.p.c - (operandByte q.operand s).toNat)
      p := withNZ (byteMod (s.a.toNat + 255 + num s.p.c - (operandByte q.operand s).toNat)) { s.p with
        c := decide ((operandByte q.operand s).toNat + 1 ≤ s.a.toNat + num s.p.c)
        v := decide (signed s.a - signed (operandByte q.operand s) - (1 - num s.p.c) < -128 ∨
          127 < signed s.a - signed (operandByte q.operand s) - (1 - num s.p.c)) }
      pc := pcAfter s q.len }) ∧
  (∀ (a m : Byte) (c : Bool), subBin a m c = addBin a (byteMod (255 - m.toNat)) c)

/-- With D = 1 and A and M both valid BCD, for each row of SBC: exec answers a next state in which A is the BCD byte
of (A - M - (1 - C) mod 100), C says that no decimal borrow was required, N and Z are those of the byte left in A, V
is some bit (a free value, log 14), PC has advanced by the length and everything else is as it was. -/
def Obligations.SbcDecimal : Prop :=
  ∀ (b : Byte) (w : Addr) (s : State), s.p.d = true → ∀ q ∈ sbcForms b w,
    IsBcd s.a → IsBcd (operandByte q.operand s) → ∃ v : Bool,
      exec q.instr s = .next { s with
        a := decimalByte ((decimal s.a + 99 + num s.p.c - decimal (operandByte q.operand s)) % 100)
        p := withNZ (decimalByte ((decimal s.a + 99 + num s.p.c - decimal (operandByte q.operand s)) % 100)) { s.p with
          c := decide (decimal (operandByte q.operand s) + 1 ≤ decimal s.a + num s.p.c), v := v }
        pc := pcAfter s q.len }

/-- With D = 1 and A or M not valid BCD, for each row of ADC and SBC: exec answers a next state in which A is some
byte r, C and V are some bits (free values, log 15), N and Z are those of r, PC has advanced by the length and
everything else is as it was: no fault, no refusal. -/
def Obligations.DecimalOnInvalidDigitsStillCompletes : Prop :=
  ∀ (b : Byte) (w : Addr) (s : State), s.p.d = true → ∀ q ∈ adcForms b w ++ sbcForms b w,
    ¬ (IsBcd s.a ∧ IsBcd (operandByte q.operand s)) → ∃ (r : Byte) (c v : Bool),
      exec q.instr s = .next { s with a := r, p := withNZ r { s.p with c := c, v := v }, pc := pcAfter s q.len }

/-- JMP addr16 loads PC with the operand; JMP (addr16i) with the word stored at the operand, its second byte at the
next address with carry into the page, mod 65536; JMP (addr16i,X) with the word stored at the operand plus X mod 65536
(the wraps at $FFFF are decision D2, log 24). Everything else is as it was; the opcodes are 4C, 6C and 7C. -/
def Obligations.JumpsLoadThePc : Prop :=
  ∀ (w : Addr) (s : State),
    (opcodeOf (.jmpAbs w) = 0x4C ∧ exec (.jmpAbs w) s = .next { s with pc := w }) ∧
    (opcodeOf (.jmpInd w) = 0x6C ∧ exec (.jmpInd w) s = .next { s with pc := jumpPointer w s }) ∧
    (opcodeOf (.jmpIndX w) = 0x7C ∧
      exec (.jmpIndX w) s = .next { s with pc := jumpPointer (addrMod (w.toNat + s.x.toNat)) s })

/-- JSR answers a next state in which the byte at $01 ## S is the high byte of PC + 2 mod 65536 and the one below, S
mod 256, its low byte, S is two less mod 256, PC is the operand, every other address reads as before, and every other
register and every flag is as it was; the opcode is 20. The wrap of PC + 2 is the spec's decision D1 (log 24), the
operand fetched before the pushes D11 (log 25). -/
def Obligations.JsrPushesReturnAddress : Prop :=
  ∀ (w : Addr) (s : State), opcodeOf (.jsr w) = 0x20 ∧
    ∃ t1 t2, Wrote (stackByte s.sp) (byteMod ((s.pc.toNat + 2) % 65536 / 256)) s t1 ∧
      Wrote (stackByte (down s.sp 1)) (byteMod (s.pc.toNat + 2)) t1 t2 ∧
      exec (.jsr w) s = .next { t2 with sp := down s.sp 2, pc := w }

/-- RTS answers the next state in which S is two more mod 256, PC is the word whose low byte is at $01 ## (S + 1) and
whose high byte is at $01 ## (S + 2), plus 1 mod 65536 (the wrap is the spec's decision D1, log 24), and everything
else is as it was; the opcode is 60. -/
def Obligations.RtsPullsReturnAddress : Prop :=
  ∀ s : State, opcodeOf .rts = 0x60 ∧
    exec .rts s = .next { s with
      sp := up s.sp 2
      pc := addrMod ((wordOf (memRead .pull1 (stackByte (up s.sp 1)) s) (memRead .pull2 (stackByte (up s.sp 2)) s)).toNat + 1) }

/-- RTI answers the next state in which the flags are loaded from the byte at $01 ## (S + 1) (bit 5 ignored, bit 4 too
under B_MODEL = phantom), PC is the word at $01 ## (S + 2), low byte, and $01 ## (S + 3), high byte, not incremented,
S is three more mod 256, and everything else is as it was; the opcode is 40. -/
def Obligations.RtiRestoresStatusAndPc : Prop :=
  ∀ s : State, opcodeOf .rti = 0x40 ∧
    exec .rti s = .next { s with
      p := unpacked s.cfg (memRead .pull1 (stackByte (up s.sp 1)) s) s.p
      sp := up s.sp 3
      pc := wordOf (memRead .pull2 (stackByte (up s.sp 2)) s) (memRead .pull3 (stackByte (up s.sp 3)) s) }

/-- For each branch and every displacement, exec answers the next state in which PC is PC + 2 plus the signed
displacement mod 65536 if its condition holds (BCC C=0, BCS C=1, BEQ Z=1, BNE Z=0, BMI N=1, BPL N=0, BVC V=0, BVS V=1,
BRA always), else PC + 2 mod 65536, and everything else is as it was, flags included; the opcodes are those of the
rules. The wrap at both ends of memory is the spec's decision D1 (log 24). -/
def Obligations.BranchesTestOneFlag : Prop :=
  ∀ (d : Byte) (s : State), ∀ q ∈ branchForms d s.p, opcodeOf q.2.1 = q.1 ∧
    exec q.2.1 s = .next { s with
      pc := if q.2.2 then BitVec.ofInt 16 ((s.pc.toNat : Int) + 2 + signed d) else pcAfter s 2 }

/-- Each flag instruction answers the next state in which the one flag it names is cleared or set, PC has advanced by
1 and everything else is as it was; NOP advances PC by 1 and changes nothing else; the opcodes are 18, D8, 58, B8, 38,
F8, 78 and EA. -/
def Obligations.FlagInstructionsAndNop : Prop :=
  (∀ s : State, ∀ q ∈ flagForms s.p, opcodeOf q.2.1 = q.1 ∧
    exec q.2.1 s = .next { s with p := q.2.2, pc := pcAfter s 1 }) ∧
  (∀ s : State, opcodeOf .nop = 0xEA ∧ exec .nop s = .next { s with pc := pcAfter s 1 })

/-- BRK answers a next state in which the bytes at $01 ## S, S - 1 and S - 2 (mod 256) are the high and low byte of PC
+ 2 mod 65536 and the status byte with bit 4 = 1, bit 5 = BIT5_PUSHED and the old D and I; S is three less mod 256; I
is 1, D is 0, B is 1 under B_MODEL = stored; PC is the word at $FFFE, read after the pushes; every other address reads
as before and everything else is as it was. It happens whatever I holds; the opcode is 00. -/
def Obligations.BrkEntersTheHandler : Prop :=
  ∀ s : State, opcodeOf .brk = 0x00 ∧
    ∃ t, Entered (s.pc.toNat + 2) true s t ∧
      exec .brk s = .next { t with
        sp := down s.sp 3
        p := { s.p with b := if s.cfg.bModel = .stored then true else s.p.b, i := true, d := false }
        pc := vector 0xFFFE t }

/-- For each of the 78 unused opcodes, exec answers the next state in which PC has advanced by NOP_LEN(opcode) mod
65536, under whatever table the parameter is, and everything else is as it was; the opcodes are the 78 of R91. -/
def Obligations.UnusedOpcodesOnlyAdvance : Prop :=
  ∀ s : State, ∀ q ∈ unusedForms, opcodeOf q.2.1 = q.1 ∧
    exec q.2.1 s = .next { s with pc := pcAfter s (nopLength s.cfg.nopLen q.1) }

/-- Every instruction answers a next state; A is as it was unless the mnemonic is ADC AND EOR LDA ORA PLA SBC TXA TYA
or the form is the accumulator form of ASL LSR ROL ROR INC DEC; X unless DEX INX LDX PLX TAX TSX; Y unless DEY INY LDY
PLY TAY; S unless TXS, a push, a pull, JSR, RTS, RTI or BRK. -/
def Obligations.RegistersWrittenOnlyByTheirInstructions : Prop :=
  ∀ (i : Instr) (s : State), ∃ t, exec i s = .next t ∧
    (i.mnemonic ∉ [.adc, .and, .eor, .lda, .ora, .pla, .sbc, .txa, .tya] → i ∉ accumulatorForms → t.a = s.a) ∧
    (i.mnemonic ∉ [.dex, .inx, .ldx, .plx, .tax, .tsx] → t.x = s.x) ∧
    (i.mnemonic ∉ [.dey, .iny, .ldy, .ply, .tay] → t.y = s.y) ∧
    (i.mnemonic ∉ [.txs, .pha, .php, .phx, .phy, .pla, .plp, .plx, .ply, .jsr, .rts, .rti, .brk] → t.sp = s.sp)

/-- Every instruction answers a next state; each flag is as it was unless R36 lists the mnemonic for it: N and Z by
the arithmetic, logic, load, pull, transfer and step instructions, PLP and RTI (BIT # leaves N alone; TRB and TSB
write Z), V by ADC SBC CLV PLP RTI and BIT in memory modes, C by ADC SBC ASL LSR ROL ROR CMP CPX CPY CLC SEC PLP RTI,
D by CLD SED PLP RTI BRK, I by CLI SEI PLP RTI BRK, B by PLP RTI BRK and by none under B_MODEL = phantom. -/
def Obligations.FlagsWrittenOnlyAsListed : Prop :=
  ∀ (i : Instr) (s : State), ∃ t, exec i s = .next t ∧
    (i.mnemonic ∉ writersOfN ∨ (∃ v, i = .bitImm v) → t.p.n = s.p.n) ∧
    (i.mnemonic ∉ [.adc, .sbc, .bit, .clv, .plp, .rti] ∨ (∃ v, i = .bitImm v) → t.p.v = s.p.v) ∧
    (i.mnemonic ∉ [.plp, .rti, .brk] ∨ s.cfg.bModel = .phantom → t.p.b = s.p.b) ∧
    (i.mnemonic ∉ [.cld, .sed, .plp, .rti, .brk] → t.p.d = s.p.d) ∧
    (i.mnemonic ∉ [.cli, .sei, .plp, .rti, .brk] → t.p.i = s.p.i) ∧
    (i.mnemonic ∉ writersOfN → i.mnemonic ∉ [.trb, .tsb] → t.p.z = s.p.z) ∧
    (i.mnemonic ∉ [.adc, .sbc, .asl, .lsr, .rol, .ror, .cmp, .cpx, .cpy, .clc, .sec, .plp, .rti] → t.p.c = s.p.c)

/-- Every instruction answers a next state; unless its mnemonic is STA STX STY STZ INC DEC ASL LSR ROL ROR TRB TSB PHA
PHP PHX PHY JSR or BRK, and for these six also in their accumulator form (ASL LSR ROL ROR INC DEC), memory and the
device log are as they were and every address reads as before, whatever the read is for. -/
def Obligations.MemoryWrittenOnlyByStoresAndPushes : Prop :=
  ∀ (i : Instr) (s : State), ∃ t, exec i s = .next t ∧
    (i.mnemonic ∉ memoryWriters ∨ i ∈ accumulatorForms →
      t.mem = s.mem ∧ t.devOut = s.devOut ∧ ∀ use a, memRead use a t = memRead use a s)

/-- Every instruction answers a next state; unless it is a jump, JSR, RTS, RTI, BRK or a branch, PC has advanced by
the length of its encoding mod 65536 (the wrap is the spec's reading, D1, log 24). -/
def Obligations.PcAdvancesByTheLength : Prop :=
  ∀ (i : Instr) (s : State), ∃ t, exec i s = .next t ∧
    (i.mnemonic ∉ controlTransfers → t.pc = pcAfter s (encode s.cfg.nopLen i).length)

/-- Every instruction answers a next state in which the reset request, nmi_pending, the IRQ line, the parameters, the
environment's schedule and the draw index are as they were. -/
def Obligations.InstructionsLeaveHiddenStateAlone : Prop :=
  ∀ (i : Instr) (s : State), ∃ t, exec i s = .next t ∧
    t.resetReq = s.resetReq ∧ t.nmiPending = s.nmiPending ∧ t.irqLine = s.irqLine ∧ t.cfg = s.cfg ∧
    t.inputs = s.inputs ∧ t.draw = s.draw

/-- For every instruction but ADC, SBC, PHP, BRK (which push it) and CLD, SED, PLP, RTI (which overwrite it): running
it with D at any other value gives the same next state but for D itself. For CLD, SED, PLP and RTI the next state is
the same altogether. -/
def Obligations.DecimalFlagReadOnlyByAdcAndSbc : Prop :=
  (∀ (i : Instr) (s : State) (d : Bool), i.mnemonic ∉ [.adc, .sbc, .php, .brk, .cld, .sed, .plp, .rti] →
    ∃ t, exec i s = .next t ∧
      exec i { s with p := { s.p with d := d } } = .next { t with p := { t.p with d := d } }) ∧
  (∀ (i : Instr) (s : State) (d : Bool), i.mnemonic ∈ [.cld, .sed, .plp, .rti] →
    ∃ t, exec i s = .next t ∧ exec i { s with p := { s.p with d := d } } = .next t)

/-- If page one is RAM: JSR answers a next state, RTS run there answers a next state, and that state is the first one
with PC advanced by 3 mod 65536 and memory as the JSR left it; every register, S included, and every flag is as it
was, even where S wraps inside page one. That PC wraps at the end of the address space is decision D1 (log 24). -/
def Obligations.JsrThenRtsReturns : Prop :=
  ∀ (w : Addr) (s : State), StackIsRam s →
    ∃ t u, exec (.jsr w) s = .next t ∧ t.pc = w ∧ exec .rts t = .next u ∧
      u = { s with mem := t.mem, pc := pcAfter s 3 }

/-- If page one is RAM: BRK answers a next state, RTI run there answers a next state, and that state is the first one
with PC advanced by 2 mod 65536 (the signature byte is skipped) and memory as the BRK left it: S, A, X, Y, N, V, D, I,
Z and C are as they were; B is 1 under B_MODEL = stored and as it was under phantom. -/
def Obligations.BrkThenRtiReturns : Prop :=
  ∀ s : State, StackIsRam s →
    ∃ t u, exec .brk s = .next t ∧ exec .rti t = .next u ∧
      u = { s with
        mem := t.mem, p := { s.p with b := if s.cfg.bModel = .stored then true else s.p.b }, pc := pcAfter s 2 }

/-- If page one is RAM and the step takes an NMI or an IRQ (the order and the sampling are the spec's decisions, log
21), then RTI run on the state it leaves answers the boundary's state with PC exactly as it was, S, A, X, Y, N, V, D,
I, Z and C as they were, memory as the entry left it, the NMI request gone if it was the one taken, and B loaded from
the 0 that was pushed under B_MODEL = stored, as it was under phantom. -/
def Obligations.InterruptThenRtiReturns : Prop :=
  ∀ s : State, StackIsRam (beginStep s) → (beginStep s).resetReq = false →
    ((beginStep s).nmiPending = true ∨ ((beginStep s).irqLine = true ∧ (beginStep s).p.i = false)) →
    ∃ t u, step s = .next t ∧ exec .rti t = .next u ∧
      u = { beginStep s with
        mem := t.mem
        nmiPending := false
        p := { (beginStep s).p with b := if (beginStep s).cfg.bModel = .stored then false else (beginStep s).p.b } }

/-- If page one is RAM: any of PHA, PHX, PHY followed by any of PLA, PLX, PLY leaves the pushed register's byte in the
pulled one, N and Z from it, S as it was, PC advanced by 2, memory as the push left it and all else as it was; PHP
followed by PLP restores all seven flags, under both models of B. -/
def Obligations.PullAfterPushReturnsTheByte : Prop :=
  (∀ s : State, StackIsRam s → ∀ q ∈ pushForms s, ∀ r ∈ pullForms,
    ∃ t u, exec q.2.1 s = .next t ∧ exec r.2.1 t = .next u ∧
      u = r.2.2 q.2.2 { s with mem := t.mem, p := withNZ q.2.2 s.p, pc := pcAfter s 2 }) ∧
  (∀ s : State, StackIsRam s →
    ∃ t u, exec .php s = .next t ∧ exec .plp t = .next u ∧ u = { s with mem := t.mem, pc := pcAfter s 2 })

/-- Every conditional branch takes 2 cycles when not taken, 3 when taken to a target on the page of the next
instruction, else 4; BRA, always taken, 3 or 4. That the page compared is that of the next instruction is the spec's
own reading: no source states it (log 33: PRESUMED). In every form of LDA, LDX, LDY, AND, ORA, EOR, CMP, CPX and CPY
the count is that of the address mode: 2 immediate, 3 zero page, 4 zero page indexed or absolute, 4 absolute indexed
and 5 (addr8i),Y, one more when the low byte of the base plus the index reaches 256, 5 (addr8i), 6 (addr8i,X); in
every form of ADC and SBC it is one more when D is 1. STA addr16,X takes 5 always; JMP (addr16i) 5, and 6 for an
operand $xxFF. None of the 78 unused opcodes has a count. Where the sources disagree these are the counts the spec
records (log 27). -/
def Obligations.CyclesOfPagesAndBranches : Prop :=
  (∀ (d : Byte) (s : State), ∀ q ∈ branchForms d s.p,
    cycles q.2.1 s = some (if q.2.2 = false then 2 else
      if (BitVec.ofInt 16 ((s.pc.toNat : Int) + 2 + signed d) : Addr).toNat / 256 = (pcAfter s 2).toNat / 256 then 3 else 4)) ∧
  (∀ (b : Byte) (w : Addr) (s : State),
    (∀ q ∈ ldaForms b w ++ ldxForms b w ++ ldyForms b w ++ andForms b w ++ oraForms b w ++ eorForms b w ++
        cmpForms b w ++ cpxForms b w ++ cpyForms b w,
      cycles q.instr s = some (readCycles q.operand s)) ∧
    (∀ q ∈ adcForms b w ++ sbcForms b w, cycles q.instr s = some (readCycles q.operand s + num s.p.d)) ∧
    cycles (.staAbsX w) s = some 5 ∧
    cycles (.jmpInd w) s = some (if w.toNat % 256 = 255 then 6 else 5)) ∧
  (∀ (s : State), ∀ q ∈ unusedForms, cycles q.2.1 s = none)
end

