-- ==== Sys2Proof/Laws/Memory.lean ====
section
/-! SUPPORT. The laws of memory: read after write, and every operation keeps the canonical form. -/

namespace Sys2Proof.Machine

theorem Memory.load_nil (a : Nat) : Memory.load [] a = unlistedByte := rfl

theorem Memory.load_cons (c : Host.Cell) (m : Memory) (a : Nat) :
    Memory.load (c :: m) a = if c.1 = a then c.2 else Memory.load m a := by
  by_cases h : c.1 = a <;> simp [Memory.load, h]

theorem Memory.load_erase_same (m : Memory) (a : Nat) : (m.erase a).load a = unlistedByte := by
  induction m with
  | nil => rfl
  | cons c m ih =>
    by_cases h : c.1 = a
    · simpa [Memory.erase, h] using ih
    · simpa [Memory.erase, h, Memory.load_cons] using ih

theorem Memory.load_erase_other (m : Memory) {a b : Nat} (h : b ≠ a) : (m.erase a).load b = m.load b := by
  induction m with
  | nil => rfl
  | cons c m ih =>
    by_cases hc : c.1 = a
    · have hb : ¬ c.1 = b := fun e => h (e ▸ hc)
      simpa [Memory.erase, hc, Memory.load_cons, hb, Ne.symm h] using ih
    · have : (Memory.erase (c :: m) a) = c :: Memory.erase m a := by simp [Memory.erase, hc]
      rw [this, Memory.load_cons, Memory.load_cons, ih]

theorem Memory.load_insert_same (c : Host.Cell) (m : Memory) (h : ∀ d ∈ m, d.1 ≠ c.1) :
    (Memory.insert c m).load c.1 = c.2 := by
  induction m with
  | nil => simp [Memory.insert, Memory.load_cons]
  | cons d m ih =>
    unfold Memory.insert
    split
    · simp [Memory.load_cons]
    · rw [Memory.load_cons, if_neg (h d (by simp))]
      exact ih fun e he => h e (by simp [he])

theorem Memory.load_insert_other (c : Host.Cell) (m : Memory) {b : Nat} (h : b ≠ c.1) :
    (Memory.insert c m).load b = m.load b := by
  induction m with
  | nil => simp [Memory.insert, Memory.load_cons, Ne.symm h]
  | cons d m ih =>
    unfold Memory.insert
    split
    · rw [Memory.load_cons, if_neg (Ne.symm h)]
    · rw [Memory.load_cons, Memory.load_cons, ih]

theorem Memory.mem_erase {m : Memory} {a : Nat} {d : Host.Cell} : d ∈ m.erase a ↔ d ∈ m ∧ d.1 ≠ a := by
  simp [Memory.erase]

/-- Reading the address just written gives the byte written. -/
theorem Memory.load_store_same (m : Memory) (a : Nat) (v : Byte) : (m.store a v).load a = v := by
  unfold Memory.store
  split
  · next h => rw [Memory.load_erase_same, h]
  · exact Memory.load_insert_same (a, v) _ fun d hd => (Memory.mem_erase.1 hd).2

/-- A write leaves every other address alone. -/
theorem Memory.load_store_other (m : Memory) {a b : Nat} (v : Byte) (h : b ≠ a) : (m.store a v).load b = m.load b := by
  unfold Memory.store
  split
  · exact Memory.load_erase_other m h
  · rw [Memory.load_insert_other (a, v) _ h, Memory.load_erase_other m h]

theorem Memory.mem_insert {c d : Host.Cell} {m : Memory} : d ∈ Memory.insert c m ↔ d = c ∨ d ∈ m := by
  induction m with
  | nil => simp [Memory.insert]
  | cons e m ih =>
    unfold Memory.insert
    split
    · simp
    · simp only [List.mem_cons, ih]; tauto

theorem Memory.empty_wf : Memory.wf [] := by simp [Memory.wf]

theorem Memory.erase_wf {m : Memory} (h : m.wf) (a : Nat) : (m.erase a).wf :=
  ⟨h.1.filter _, fun c hc => h.2 c (Memory.mem_erase.1 hc).1⟩

theorem Memory.insert_pairwise {c : Host.Cell} {m : Memory} (h : m.Pairwise (fun x y => x.1 < y.1))
    (hc : ∀ d ∈ m, d.1 ≠ c.1) : (Memory.insert c m).Pairwise (fun x y => x.1 < y.1) := by
  induction m with
  | nil => simp [Memory.insert]
  | cons d m ih =>
    rw [List.pairwise_cons] at h
    unfold Memory.insert
    split
    · next hlt =>
      rw [List.pairwise_cons, List.pairwise_cons]
      refine ⟨fun e he => ?_, h⟩
      rcases List.mem_cons.1 he with rfl | he
      · exact hlt
      · exact lt_trans hlt (h.1 e he)
    · next hlt =>
      have hne := hc d (by simp)
      rw [List.pairwise_cons]
      refine ⟨fun e he => ?_, ih h.2 fun e he => hc e (by simp [he])⟩
      rcases Memory.mem_insert.1 he with rfl | he
      · omega
      · exact h.1 e he

/-- A write within the address space keeps the canonical form. -/
theorem Memory.store_wf {m : Memory} (h : m.wf) {a : Nat} (ha : a < 65536) (v : Byte) : (m.store a v).wf := by
  unfold Memory.store
  split
  · exact Memory.erase_wf h a
  · next hv =>
    refine ⟨Memory.insert_pairwise (Memory.erase_wf h a).1 fun d hd => (Memory.mem_erase.1 hd).2, fun c hc => ?_⟩
    rcases Memory.mem_insert.1 hc with rfl | hc
    · exact ⟨ha, hv⟩
    · exact (Memory.erase_wf h a).2 c hc

/-- Two memories in canonical form that read the same everywhere list the same entries. -/
theorem Memory.mem_iff_load {m : Memory} (h : m.wf) (c : Host.Cell) :
    c ∈ m ↔ m.load c.1 = c.2 ∧ c.2 ≠ unlistedByte := by
  induction m with
  | nil => simp [Memory.load, eq_comm]
  | cons d m ih =>
    have hm : Memory.wf m := ⟨(List.pairwise_cons.1 h.1).2, fun e he => h.2 e (by simp [he])⟩
    rw [List.mem_cons, Memory.load_cons, ih hm]
    by_cases hd : d.1 = c.1
    · have hn : ¬ (c ∈ m) := fun hc => absurd ((List.pairwise_cons.1 h.1).1 c hc) (by omega)
      rw [ih hm] at hn
      have hv := (h.2 d (by simp)).2
      constructor
      · rintro (rfl | hc)
        · simpa using hv
        · exact absurd hc hn
      · rintro ⟨he, -⟩
        rw [if_pos hd] at he
        exact .inl (Prod.ext hd.symm he.symm)
    · rw [if_neg hd]
      constructor
      · rintro (rfl | hc)
        · exact absurd rfl hd
        · exact hc
      · exact .inr

end Sys2Proof.Machine
end

