-- ==== Sys2Proof/Laws/State.lean ====
section
/-! SUPPORT. What every named update does to every field of State: one lemma for each field of each update. -/

namespace Sys2Proof.Machine

@[simp] theorem setA_a (v : Byte) (s : State) : (setA v s).a = v := rfl
@[simp] theorem setA_x (v : Byte) (s : State) : (setA v s).x = s.x := rfl
@[simp] theorem setA_y (v : Byte) (s : State) : (setA v s).y = s.y := rfl
@[simp] theorem setA_sp (v : Byte) (s : State) : (setA v s).sp = s.sp := rfl
@[simp] theorem setA_pc (v : Byte) (s : State) : (setA v s).pc = s.pc := rfl
@[simp] theorem setA_p (v : Byte) (s : State) : (setA v s).p = s.p := rfl
@[simp] theorem setA_mem (v : Byte) (s : State) : (setA v s).mem = s.mem := rfl
@[simp] theorem setA_resetReq (v : Byte) (s : State) : (setA v s).resetReq = s.resetReq := rfl
@[simp] theorem setA_nmiPending (v : Byte) (s : State) : (setA v s).nmiPending = s.nmiPending := rfl
@[simp] theorem setA_irqLine (v : Byte) (s : State) : (setA v s).irqLine = s.irqLine := rfl
@[simp] theorem setA_cfg (v : Byte) (s : State) : (setA v s).cfg = s.cfg := rfl
@[simp] theorem setA_inputs (v : Byte) (s : State) : (setA v s).inputs = s.inputs := rfl
@[simp] theorem setA_draw (v : Byte) (s : State) : (setA v s).draw = s.draw := rfl
@[simp] theorem setA_devOut (v : Byte) (s : State) : (setA v s).devOut = s.devOut := rfl

@[simp] theorem setX_a (v : Byte) (s : State) : (setX v s).a = s.a := rfl
@[simp] theorem setX_x (v : Byte) (s : State) : (setX v s).x = v := rfl
@[simp] theorem setX_y (v : Byte) (s : State) : (setX v s).y = s.y := rfl
@[simp] theorem setX_sp (v : Byte) (s : State) : (setX v s).sp = s.sp := rfl
@[simp] theorem setX_pc (v : Byte) (s : State) : (setX v s).pc = s.pc := rfl
@[simp] theorem setX_p (v : Byte) (s : State) : (setX v s).p = s.p := rfl
@[simp] theorem setX_mem (v : Byte) (s : State) : (setX v s).mem = s.mem := rfl
@[simp] theorem setX_resetReq (v : Byte) (s : State) : (setX v s).resetReq = s.resetReq := rfl
@[simp] theorem setX_nmiPending (v : Byte) (s : State) : (setX v s).nmiPending = s.nmiPending := rfl
@[simp] theorem setX_irqLine (v : Byte) (s : State) : (setX v s).irqLine = s.irqLine := rfl
@[simp] theorem setX_cfg (v : Byte) (s : State) : (setX v s).cfg = s.cfg := rfl
@[simp] theorem setX_inputs (v : Byte) (s : State) : (setX v s).inputs = s.inputs := rfl
@[simp] theorem setX_draw (v : Byte) (s : State) : (setX v s).draw = s.draw := rfl
@[simp] theorem setX_devOut (v : Byte) (s : State) : (setX v s).devOut = s.devOut := rfl

@[simp] theorem setY_a (v : Byte) (s : State) : (setY v s).a = s.a := rfl
@[simp] theorem setY_x (v : Byte) (s : State) : (setY v s).x = s.x := rfl
@[simp] theorem setY_y (v : Byte) (s : State) : (setY v s).y = v := rfl
@[simp] theorem setY_sp (v : Byte) (s : State) : (setY v s).sp = s.sp := rfl
@[simp] theorem setY_pc (v : Byte) (s : State) : (setY v s).pc = s.pc := rfl
@[simp] theorem setY_p (v : Byte) (s : State) : (setY v s).p = s.p := rfl
@[simp] theorem setY_mem (v : Byte) (s : State) : (setY v s).mem = s.mem := rfl
@[simp] theorem setY_resetReq (v : Byte) (s : State) : (setY v s).resetReq = s.resetReq := rfl
@[simp] theorem setY_nmiPending (v : Byte) (s : State) : (setY v s).nmiPending = s.nmiPending := rfl
@[simp] theorem setY_irqLine (v : Byte) (s : State) : (setY v s).irqLine = s.irqLine := rfl
@[simp] theorem setY_cfg (v : Byte) (s : State) : (setY v s).cfg = s.cfg := rfl
@[simp] theorem setY_inputs (v : Byte) (s : State) : (setY v s).inputs = s.inputs := rfl
@[simp] theorem setY_draw (v : Byte) (s : State) : (setY v s).draw = s.draw := rfl
@[simp] theorem setY_devOut (v : Byte) (s : State) : (setY v s).devOut = s.devOut := rfl

@[simp] theorem setSp_a (v : Byte) (s : State) : (setSp v s).a = s.a := rfl
@[simp] theorem setSp_x (v : Byte) (s : State) : (setSp v s).x = s.x := rfl
@[simp] theorem setSp_y (v : Byte) (s : State) : (setSp v s).y = s.y := rfl
@[simp] theorem setSp_sp (v : Byte) (s : State) : (setSp v s).sp = v := rfl
@[simp] theorem setSp_pc (v : Byte) (s : State) : (setSp v s).pc = s.pc := rfl
@[simp] theorem setSp_p (v : Byte) (s : State) : (setSp v s).p = s.p := rfl
@[simp] theorem setSp_mem (v : Byte) (s : State) : (setSp v s).mem = s.mem := rfl
@[simp] theorem setSp_resetReq (v : Byte) (s : State) : (setSp v s).resetReq = s.resetReq := rfl
@[simp] theorem setSp_nmiPending (v : Byte) (s : State) : (setSp v s).nmiPending = s.nmiPending := rfl
@[simp] theorem setSp_irqLine (v : Byte) (s : State) : (setSp v s).irqLine = s.irqLine := rfl
@[simp] theorem setSp_cfg (v : Byte) (s : State) : (setSp v s).cfg = s.cfg := rfl
@[simp] theorem setSp_inputs (v : Byte) (s : State) : (setSp v s).inputs = s.inputs := rfl
@[simp] theorem setSp_draw (v : Byte) (s : State) : (setSp v s).draw = s.draw := rfl
@[simp] theorem setSp_devOut (v : Byte) (s : State) : (setSp v s).devOut = s.devOut := rfl

@[simp] theorem setPc_a (v : Addr) (s : State) : (setPc v s).a = s.a := rfl
@[simp] theorem setPc_x (v : Addr) (s : State) : (setPc v s).x = s.x := rfl
@[simp] theorem setPc_y (v : Addr) (s : State) : (setPc v s).y = s.y := rfl
@[simp] theorem setPc_sp (v : Addr) (s : State) : (setPc v s).sp = s.sp := rfl
@[simp] theorem setPc_pc (v : Addr) (s : State) : (setPc v s).pc = v := rfl
@[simp] theorem setPc_p (v : Addr) (s : State) : (setPc v s).p = s.p := rfl
@[simp] theorem setPc_mem (v : Addr) (s : State) : (setPc v s).mem = s.mem := rfl
@[simp] theorem setPc_resetReq (v : Addr) (s : State) : (setPc v s).resetReq = s.resetReq := rfl
@[simp] theorem setPc_nmiPending (v : Addr) (s : State) : (setPc v s).nmiPending = s.nmiPending := rfl
@[simp] theorem setPc_irqLine (v : Addr) (s : State) : (setPc v s).irqLine = s.irqLine := rfl
@[simp] theorem setPc_cfg (v : Addr) (s : State) : (setPc v s).cfg = s.cfg := rfl
@[simp] theorem setPc_inputs (v : Addr) (s : State) : (setPc v s).inputs = s.inputs := rfl
@[simp] theorem setPc_draw (v : Addr) (s : State) : (setPc v s).draw = s.draw := rfl
@[simp] theorem setPc_devOut (v : Addr) (s : State) : (setPc v s).devOut = s.devOut := rfl

@[simp] theorem setFlags_a (v : Flags) (s : State) : (setFlags v s).a = s.a := rfl
@[simp] theorem setFlags_x (v : Flags) (s : State) : (setFlags v s).x = s.x := rfl
@[simp] theorem setFlags_y (v : Flags) (s : State) : (setFlags v s).y = s.y := rfl
@[simp] theorem setFlags_sp (v : Flags) (s : State) : (setFlags v s).sp = s.sp := rfl
@[simp] theorem setFlags_pc (v : Flags) (s : State) : (setFlags v s).pc = s.pc := rfl
@[simp] theorem setFlags_p (v : Flags) (s : State) : (setFlags v s).p = v := rfl
@[simp] theorem setFlags_mem (v : Flags) (s : State) : (setFlags v s).mem = s.mem := rfl
@[simp] theorem setFlags_resetReq (v : Flags) (s : State) : (setFlags v s).resetReq = s.resetReq := rfl
@[simp] theorem setFlags_nmiPending (v : Flags) (s : State) : (setFlags v s).nmiPending = s.nmiPending := rfl
@[simp] theorem setFlags_irqLine (v : Flags) (s : State) : (setFlags v s).irqLine = s.irqLine := rfl
@[simp] theorem setFlags_cfg (v : Flags) (s : State) : (setFlags v s).cfg = s.cfg := rfl
@[simp] theorem setFlags_inputs (v : Flags) (s : State) : (setFlags v s).inputs = s.inputs := rfl
@[simp] theorem setFlags_draw (v : Flags) (s : State) : (setFlags v s).draw = s.draw := rfl
@[simp] theorem setFlags_devOut (v : Flags) (s : State) : (setFlags v s).devOut = s.devOut := rfl

@[simp] theorem setMem_a (v : Memory) (s : State) : (setMem v s).a = s.a := rfl
@[simp] theorem setMem_x (v : Memory) (s : State) : (setMem v s).x = s.x := rfl
@[simp] theorem setMem_y (v : Memory) (s : State) : (setMem v s).y = s.y := rfl
@[simp] theorem setMem_sp (v : Memory) (s : State) : (setMem v s).sp = s.sp := rfl
@[simp] theorem setMem_pc (v : Memory) (s : State) : (setMem v s).pc = s.pc := rfl
@[simp] theorem setMem_p (v : Memory) (s : State) : (setMem v s).p = s.p := rfl
@[simp] theorem setMem_mem (v : Memory) (s : State) : (setMem v s).mem = v := rfl
@[simp] theorem setMem_resetReq (v : Memory) (s : State) : (setMem v s).resetReq = s.resetReq := rfl
@[simp] theorem setMem_nmiPending (v : Memory) (s : State) : (setMem v s).nmiPending = s.nmiPending := rfl
@[simp] theorem setMem_irqLine (v : Memory) (s : State) : (setMem v s).irqLine = s.irqLine := rfl
@[simp] theorem setMem_cfg (v : Memory) (s : State) : (setMem v s).cfg = s.cfg := rfl
@[simp] theorem setMem_inputs (v : Memory) (s : State) : (setMem v s).inputs = s.inputs := rfl
@[simp] theorem setMem_draw (v : Memory) (s : State) : (setMem v s).draw = s.draw := rfl
@[simp] theorem setMem_devOut (v : Memory) (s : State) : (setMem v s).devOut = s.devOut := rfl

@[simp] theorem advance_a (len : Nat) (s : State) : (advance len s).a = s.a := rfl
@[simp] theorem advance_x (len : Nat) (s : State) : (advance len s).x = s.x := rfl
@[simp] theorem advance_y (len : Nat) (s : State) : (advance len s).y = s.y := rfl
@[simp] theorem advance_sp (len : Nat) (s : State) : (advance len s).sp = s.sp := rfl
@[simp] theorem advance_pc (len : Nat) (s : State) : (advance len s).pc = s.pc + BitVec.ofNat 16 len := rfl
@[simp] theorem advance_p (len : Nat) (s : State) : (advance len s).p = s.p := rfl
@[simp] theorem advance_mem (len : Nat) (s : State) : (advance len s).mem = s.mem := rfl
@[simp] theorem advance_resetReq (len : Nat) (s : State) : (advance len s).resetReq = s.resetReq := rfl
@[simp] theorem advance_nmiPending (len : Nat) (s : State) : (advance len s).nmiPending = s.nmiPending := rfl
@[simp] theorem advance_irqLine (len : Nat) (s : State) : (advance len s).irqLine = s.irqLine := rfl
@[simp] theorem advance_cfg (len : Nat) (s : State) : (advance len s).cfg = s.cfg := rfl
@[simp] theorem advance_inputs (len : Nat) (s : State) : (advance len s).inputs = s.inputs := rfl
@[simp] theorem advance_draw (len : Nat) (s : State) : (advance len s).draw = s.draw := rfl
@[simp] theorem advance_devOut (len : Nat) (s : State) : (advance len s).devOut = s.devOut := rfl

@[simp] theorem setStateNZ_a (v : Byte) (s : State) : (setStateNZ v s).a = s.a := rfl
@[simp] theorem setStateNZ_x (v : Byte) (s : State) : (setStateNZ v s).x = s.x := rfl
@[simp] theorem setStateNZ_y (v : Byte) (s : State) : (setStateNZ v s).y = s.y := rfl
@[simp] theorem setStateNZ_sp (v : Byte) (s : State) : (setStateNZ v s).sp = s.sp := rfl
@[simp] theorem setStateNZ_pc (v : Byte) (s : State) : (setStateNZ v s).pc = s.pc := rfl
@[simp] theorem setStateNZ_p (v : Byte) (s : State) : (setStateNZ v s).p = setNZ v s.p := rfl
@[simp] theorem setStateNZ_mem (v : Byte) (s : State) : (setStateNZ v s).mem = s.mem := rfl
@[simp] theorem setStateNZ_resetReq (v : Byte) (s : State) : (setStateNZ v s).resetReq = s.resetReq := rfl
@[simp] theorem setStateNZ_nmiPending (v : Byte) (s : State) : (setStateNZ v s).nmiPending = s.nmiPending := rfl
@[simp] theorem setStateNZ_irqLine (v : Byte) (s : State) : (setStateNZ v s).irqLine = s.irqLine := rfl
@[simp] theorem setStateNZ_cfg (v : Byte) (s : State) : (setStateNZ v s).cfg = s.cfg := rfl
@[simp] theorem setStateNZ_inputs (v : Byte) (s : State) : (setStateNZ v s).inputs = s.inputs := rfl
@[simp] theorem setStateNZ_draw (v : Byte) (s : State) : (setStateNZ v s).draw = s.draw := rfl
@[simp] theorem setStateNZ_devOut (v : Byte) (s : State) : (setStateNZ v s).devOut = s.devOut := rfl

@[simp] theorem pulled_a (s : State) : (pulled s).a = s.a := rfl
@[simp] theorem pulled_x (s : State) : (pulled s).x = s.x := rfl
@[simp] theorem pulled_y (s : State) : (pulled s).y = s.y := rfl
@[simp] theorem pulled_sp (s : State) : (pulled s).sp = s.sp + 1 := rfl
@[simp] theorem pulled_pc (s : State) : (pulled s).pc = s.pc := rfl
@[simp] theorem pulled_p (s : State) : (pulled s).p = s.p := rfl
@[simp] theorem pulled_mem (s : State) : (pulled s).mem = s.mem := rfl
@[simp] theorem pulled_resetReq (s : State) : (pulled s).resetReq = s.resetReq := rfl
@[simp] theorem pulled_nmiPending (s : State) : (pulled s).nmiPending = s.nmiPending := rfl
@[simp] theorem pulled_irqLine (s : State) : (pulled s).irqLine = s.irqLine := rfl
@[simp] theorem pulled_cfg (s : State) : (pulled s).cfg = s.cfg := rfl
@[simp] theorem pulled_inputs (s : State) : (pulled s).inputs = s.inputs := rfl
@[simp] theorem pulled_draw (s : State) : (pulled s).draw = s.draw := rfl
@[simp] theorem pulled_devOut (s : State) : (pulled s).devOut = s.devOut := rfl

@[simp] theorem memWrite_a (w : Addr) (v : Byte) (s : State) : (memWrite w v s).a = s.a := by unfold memWrite; split <;> rfl
@[simp] theorem memWrite_x (w : Addr) (v : Byte) (s : State) : (memWrite w v s).x = s.x := by unfold memWrite; split <;> rfl
@[simp] theorem memWrite_y (w : Addr) (v : Byte) (s : State) : (memWrite w v s).y = s.y := by unfold memWrite; split <;> rfl
@[simp] theorem memWrite_sp (w : Addr) (v : Byte) (s : State) : (memWrite w v s).sp = s.sp := by unfold memWrite; split <;> rfl
@[simp] theorem memWrite_pc (w : Addr) (v : Byte) (s : State) : (memWrite w v s).pc = s.pc := by unfold memWrite; split <;> rfl
@[simp] theorem memWrite_p (w : Addr) (v : Byte) (s : State) : (memWrite w v s).p = s.p := by unfold memWrite; split <;> rfl
@[simp] theorem memWrite_resetReq (w : Addr) (v : Byte) (s : State) : (memWrite w v s).resetReq = s.resetReq := by unfold memWrite; split <;> rfl
@[simp] theorem memWrite_nmiPending (w : Addr) (v : Byte) (s : State) : (memWrite w v s).nmiPending = s.nmiPending := by unfold memWrite; split <;> rfl
@[simp] theorem memWrite_irqLine (w : Addr) (v : Byte) (s : State) : (memWrite w v s).irqLine = s.irqLine := by unfold memWrite; split <;> rfl
@[simp] theorem memWrite_cfg (w : Addr) (v : Byte) (s : State) : (memWrite w v s).cfg = s.cfg := by unfold memWrite; split <;> rfl
@[simp] theorem memWrite_inputs (w : Addr) (v : Byte) (s : State) : (memWrite w v s).inputs = s.inputs := by unfold memWrite; split <;> rfl
@[simp] theorem memWrite_draw (w : Addr) (v : Byte) (s : State) : (memWrite w v s).draw = s.draw := by unfold memWrite; split <;> rfl

@[simp] theorem push_a (v : Byte) (s : State) : (push v s).a = s.a := by simp [push]
@[simp] theorem push_x (v : Byte) (s : State) : (push v s).x = s.x := by simp [push]
@[simp] theorem push_y (v : Byte) (s : State) : (push v s).y = s.y := by simp [push]
@[simp] theorem push_sp (v : Byte) (s : State) : (push v s).sp = s.sp - 1 := rfl
@[simp] theorem push_pc (v : Byte) (s : State) : (push v s).pc = s.pc := by simp [push]
@[simp] theorem push_p (v : Byte) (s : State) : (push v s).p = s.p := by simp [push]
@[simp] theorem push_mem (v : Byte) (s : State) : (push v s).mem = (memWrite (stackAddr s.sp) v s).mem := rfl
@[simp] theorem push_resetReq (v : Byte) (s : State) : (push v s).resetReq = s.resetReq := by simp [push]
@[simp] theorem push_nmiPending (v : Byte) (s : State) : (push v s).nmiPending = s.nmiPending := by simp [push]
@[simp] theorem push_irqLine (v : Byte) (s : State) : (push v s).irqLine = s.irqLine := by simp [push]
@[simp] theorem push_cfg (v : Byte) (s : State) : (push v s).cfg = s.cfg := by simp [push]
@[simp] theorem push_inputs (v : Byte) (s : State) : (push v s).inputs = s.inputs := by simp [push]
@[simp] theorem push_draw (v : Byte) (s : State) : (push v s).draw = s.draw := by simp [push]
@[simp] theorem push_devOut (v : Byte) (s : State) : (push v s).devOut = (memWrite (stackAddr s.sp) v s).devOut := rfl

@[simp] theorem pushWord_a (w : Addr) (s : State) : (pushWord w s).a = s.a := by simp [pushWord]
@[simp] theorem pushWord_x (w : Addr) (s : State) : (pushWord w s).x = s.x := by simp [pushWord]
@[simp] theorem pushWord_y (w : Addr) (s : State) : (pushWord w s).y = s.y := by simp [pushWord]
@[simp] theorem pushWord_sp (w : Addr) (s : State) : (pushWord w s).sp = s.sp - 1 - 1 := by simp [pushWord]
@[simp] theorem pushWord_pc (w : Addr) (s : State) : (pushWord w s).pc = s.pc := by simp [pushWord]
@[simp] theorem pushWord_p (w : Addr) (s : State) : (pushWord w s).p = s.p := by simp [pushWord]
@[simp] theorem pushWord_resetReq (w : Addr) (s : State) : (pushWord w s).resetReq = s.resetReq := by simp [pushWord]
@[simp] theorem pushWord_nmiPending (w : Addr) (s : State) : (pushWord w s).nmiPending = s.nmiPending := by simp [pushWord]
@[simp] theorem pushWord_irqLine (w : Addr) (s : State) : (pushWord w s).irqLine = s.irqLine := by simp [pushWord]
@[simp] theorem pushWord_cfg (w : Addr) (s : State) : (pushWord w s).cfg = s.cfg := by simp [pushWord]
@[simp] theorem pushWord_inputs (w : Addr) (s : State) : (pushWord w s).inputs = s.inputs := by simp [pushWord]
@[simp] theorem pushWord_draw (w : Addr) (s : State) : (pushWord w s).draw = s.draw := by simp [pushWord]

/-- A state is its fourteen fields. -/
theorem State.ext_fields {s t : State} (ha : s.a = t.a) (hx : s.x = t.x) (hy : s.y = t.y) (hsp : s.sp = t.sp)
    (hpc : s.pc = t.pc) (hp : s.p = t.p) (hmem : s.mem = t.mem) (hr : s.resetReq = t.resetReq)
    (hn : s.nmiPending = t.nmiPending) (hi : s.irqLine = t.irqLine) (hc : s.cfg = t.cfg) (hin : s.inputs = t.inputs)
    (hd : s.draw = t.draw) (ho : s.devOut = t.devOut) : s = t := by
  cases s; cases t; simp_all

end Sys2Proof.Machine
end

