-- ==== Sys2Proof/Laws/Ops.lean ====
section
/-! SUPPORT. What the shared operations of Machine/Ops.lean can do, said once for each. -/

namespace Sys2Proof.Machine

/-! ### Reads -/

/-- A read looks at the parameters, the memory and the index of the free values, and at nothing else. -/
theorem memRead_congr {s t : State} (use : BusRead) (a : Addr) (hc : s.cfg = t.cfg) (hm : s.mem = t.mem)
    (hd : s.draw = t.draw) : memRead use a s = memRead use a t := by
  unfold memRead; rw [hc, hm, hd]

@[simp] theorem memRead_setA (use : BusRead) (a : Addr) (v : Byte) (s : State) :
    memRead use a (setA v s) = memRead use a s := rfl

@[simp] theorem memRead_setX (use : BusRead) (a : Addr) (v : Byte) (s : State) :
    memRead use a (setX v s) = memRead use a s := rfl

@[simp] theorem memRead_setY (use : BusRead) (a : Addr) (v : Byte) (s : State) :
    memRead use a (setY v s) = memRead use a s := rfl

@[simp] theorem memRead_setSp (use : BusRead) (a : Addr) (v : Byte) (s : State) :
    memRead use a (setSp v s) = memRead use a s := rfl

@[simp] theorem memRead_setPc (use : BusRead) (a : Addr) (v : Addr) (s : State) :
    memRead use a (setPc v s) = memRead use a s := rfl

@[simp] theorem memRead_setFlags (use : BusRead) (a : Addr) (v : Flags) (s : State) :
    memRead use a (setFlags v s) = memRead use a s := rfl

@[simp] theorem memRead_advance (use : BusRead) (a : Addr) (v : Nat) (s : State) :
    memRead use a (advance v s) = memRead use a s := rfl

@[simp] theorem memRead_setStateNZ (use : BusRead) (a : Addr) (v : Byte) (s : State) :
    memRead use a (setStateNZ v s) = memRead use a s := rfl

@[simp] theorem memRead_pulled (use : BusRead) (a : Addr) (s : State) :
    memRead use a (pulled s) = memRead use a s := rfl

theorem memRead_content {s : State} {a : Addr} (use : BusRead) (h : kindOf s.cfg a = .ram ∨ kindOf s.cfg a = .rom) :
    memRead use a s = s.mem.load a.toNat := by
  unfold memRead; rcases h with h | h <;> rw [h]

theorem memRead_draw {s : State} {a : Addr} (use : BusRead) (h : kindOf s.cfg a = .io ∨ kindOf s.cfg a = .unmapped) :
    memRead use a s = Config.busByte s.draw use a := by
  unfold memRead; rcases h with h | h <;> rw [h]

/-! ### Writes -/

theorem memWrite_ram {s : State} {a : Addr} (v : Byte) (h : kindOf s.cfg a = .ram) :
    memWrite a v s = setMem (s.mem.store a.toNat v) s := by
  unfold memWrite; rw [h]

theorem memWrite_io {s : State} {a : Addr} (v : Byte) (h : kindOf s.cfg a = .io) :
    memWrite a v s = { s with devOut := (a.toNat, v) :: s.devOut } := by
  unfold memWrite; rw [h]

theorem memWrite_ignored {s : State} {a : Addr} (v : Byte) (h : kindOf s.cfg a = .rom ∨ kindOf s.cfg a = .unmapped) :
    memWrite a v s = s := by
  unfold memWrite; rcases h with h | h <;> rw [h]

/-- Everything a write can do: store into RAM, hand a byte to a device, or nothing. -/
theorem memWrite_cases (a : Addr) (v : Byte) (s : State) :
    (kindOf s.cfg a = .ram ∧ memWrite a v s = setMem (s.mem.store a.toNat v) s) ∨
    (kindOf s.cfg a = .io ∧ memWrite a v s = { s with devOut := (a.toNat, v) :: s.devOut }) ∨
    ((kindOf s.cfg a = .rom ∨ kindOf s.cfg a = .unmapped) ∧ memWrite a v s = s) := by
  cases h : kindOf s.cfg a
  · exact .inl ⟨rfl, memWrite_ram v h⟩
  · exact .inr (.inr ⟨.inl rfl, memWrite_ignored v (.inl h)⟩)
  · exact .inr (.inl ⟨rfl, memWrite_io v h⟩)
  · exact .inr (.inr ⟨.inr rfl, memWrite_ignored v (.inr h)⟩)

/-- The content of every address but the one written is as before. -/
theorem load_memWrite_other {a b : Addr} (v : Byte) (s : State) (h : b ≠ a) :
    (memWrite a v s).mem.load b.toNat = s.mem.load b.toNat := by
  have hn : b.toNat ≠ a.toNat := fun e => h (BitVec.eq_of_toNat_eq e)
  rcases memWrite_cases a v s with ⟨-, e⟩ | ⟨-, e⟩ | ⟨-, e⟩ <;> rw [e]
  exact Memory.load_store_other _ v hn

/-- A read of every address but the one written answers as before. -/
theorem memRead_memWrite_other {a b : Addr} (use : BusRead) (v : Byte) (s : State) (h : b ≠ a) :
    memRead use b (memWrite a v s) = memRead use b s := by
  unfold memRead
  rw [memWrite_cfg, memWrite_draw, load_memWrite_other v s h]

/-- A read of a RAM address just written answers the byte written. -/
theorem memRead_memWrite_same {a : Addr} (use : BusRead) (v : Byte) {s : State} (h : kindOf s.cfg a = .ram) :
    memRead use a (memWrite a v s) = v := by
  rw [memRead_content use (.inl (by rw [memWrite_cfg]; exact h)), memWrite_ram v h]
  exact Memory.load_store_same _ _ v

/-- A write keeps the canonical form of memory. -/
theorem memWrite_wf {s : State} (a : Addr) (v : Byte) (h : s.mem.wf) : (memWrite a v s).mem.wf := by
  rcases memWrite_cases a v s with ⟨-, e⟩ | ⟨-, e⟩ | ⟨-, e⟩ <;> rw [e]
  · exact Memory.store_wf h a.isLt v
  · exact h
  · exact h

theorem push_wf {s : State} (v : Byte) (h : s.mem.wf) : (push v s).mem.wf := memWrite_wf _ v h

theorem pushWord_wf {s : State} (w : Addr) (h : s.mem.wf) : (pushWord w s).mem.wf := push_wf _ (push_wf _ h)

/-- A push leaves every byte alone but the one the stack pointer names (R150). -/
theorem memRead_push_other {b : Addr} (use : BusRead) (v : Byte) (s : State) (h : b ≠ stackAddr s.sp) :
    memRead use b (push v s) = memRead use b s :=
  memRead_memWrite_other use v s h

/-! ### Taking an exception -/

theorem enter_wf {s : State} (ret vec : Addr) (b4 : Bool) (h : s.mem.wf) : (enter ret vec b4 s).mem.wf :=
  push_wf _ (pushWord_wf _ h)

@[simp] theorem enter_a (ret vec : Addr) (b4 : Bool) (s : State) : (enter ret vec b4 s).a = s.a := by
  simp [enter]

@[simp] theorem enter_x (ret vec : Addr) (b4 : Bool) (s : State) : (enter ret vec b4 s).x = s.x := by
  simp [enter]

@[simp] theorem enter_y (ret vec : Addr) (b4 : Bool) (s : State) : (enter ret vec b4 s).y = s.y := by
  simp [enter]

@[simp] theorem enter_resetReq (ret vec : Addr) (b4 : Bool) (s : State) : (enter ret vec b4 s).resetReq = s.resetReq := by
  simp [enter]

@[simp] theorem enter_nmiPending (ret vec : Addr) (b4 : Bool) (s : State) : (enter ret vec b4 s).nmiPending = s.nmiPending := by
  simp [enter]

@[simp] theorem enter_irqLine (ret vec : Addr) (b4 : Bool) (s : State) : (enter ret vec b4 s).irqLine = s.irqLine := by
  simp [enter]

@[simp] theorem enter_cfg (ret vec : Addr) (b4 : Bool) (s : State) : (enter ret vec b4 s).cfg = s.cfg := by
  simp [enter]

@[simp] theorem enter_inputs (ret vec : Addr) (b4 : Bool) (s : State) : (enter ret vec b4 s).inputs = s.inputs := by
  simp [enter]

@[simp] theorem enter_draw (ret vec : Addr) (b4 : Bool) (s : State) : (enter ret vec b4 s).draw = s.draw := by
  simp [enter]

@[simp] theorem enter_sp (ret vec : Addr) (b4 : Bool) (s : State) : (enter ret vec b4 s).sp = s.sp - 1 - 1 - 1 := by
  simp [enter]

@[simp] theorem enter_p (ret vec : Addr) (b4 : Bool) (s : State) :
    (enter ret vec b4 s).p = { s.p with i := true, d := false } := by
  simp [enter]

/-! ### The environment -/

@[simp] theorem applyInput_a (s : State) (e : Input) : (applyInput s e).a = s.a := by
  unfold applyInput; split <;> (try split) <;> rfl

@[simp] theorem foldl_applyInput_a (l : List Input) (s : State) : (l.foldl applyInput s).a = s.a := by
  induction l generalizing s with
  | nil => rfl
  | cons e l ih => rw [List.foldl_cons, ih, applyInput_a]

@[simp] theorem applyInput_x (s : State) (e : Input) : (applyInput s e).x = s.x := by
  unfold applyInput; split <;> (try split) <;> rfl

@[simp] theorem foldl_applyInput_x (l : List Input) (s : State) : (l.foldl applyInput s).x = s.x := by
  induction l generalizing s with
  | nil => rfl
  | cons e l ih => rw [List.foldl_cons, ih, applyInput_x]

@[simp] theorem applyInput_y (s : State) (e : Input) : (applyInput s e).y = s.y := by
  unfold applyInput; split <;> (try split) <;> rfl

@[simp] theorem foldl_applyInput_y (l : List Input) (s : State) : (l.foldl applyInput s).y = s.y := by
  induction l generalizing s with
  | nil => rfl
  | cons e l ih => rw [List.foldl_cons, ih, applyInput_y]

@[simp] theorem applyInput_sp (s : State) (e : Input) : (applyInput s e).sp = s.sp := by
  unfold applyInput; split <;> (try split) <;> rfl

@[simp] theorem foldl_applyInput_sp (l : List Input) (s : State) : (l.foldl applyInput s).sp = s.sp := by
  induction l generalizing s with
  | nil => rfl
  | cons e l ih => rw [List.foldl_cons, ih, applyInput_sp]

@[simp] theorem applyInput_pc (s : State) (e : Input) : (applyInput s e).pc = s.pc := by
  unfold applyInput; split <;> (try split) <;> rfl

@[simp] theorem foldl_applyInput_pc (l : List Input) (s : State) : (l.foldl applyInput s).pc = s.pc := by
  induction l generalizing s with
  | nil => rfl
  | cons e l ih => rw [List.foldl_cons, ih, applyInput_pc]

@[simp] theorem applyInput_mem (s : State) (e : Input) : (applyInput s e).mem = s.mem := by
  unfold applyInput; split <;> (try split) <;> rfl

@[simp] theorem foldl_applyInput_mem (l : List Input) (s : State) : (l.foldl applyInput s).mem = s.mem := by
  induction l generalizing s with
  | nil => rfl
  | cons e l ih => rw [List.foldl_cons, ih, applyInput_mem]

@[simp] theorem applyInput_cfg (s : State) (e : Input) : (applyInput s e).cfg = s.cfg := by
  unfold applyInput; split <;> (try split) <;> rfl

@[simp] theorem foldl_applyInput_cfg (l : List Input) (s : State) : (l.foldl applyInput s).cfg = s.cfg := by
  induction l generalizing s with
  | nil => rfl
  | cons e l ih => rw [List.foldl_cons, ih, applyInput_cfg]

@[simp] theorem applyInput_inputs (s : State) (e : Input) : (applyInput s e).inputs = s.inputs := by
  unfold applyInput; split <;> (try split) <;> rfl

@[simp] theorem foldl_applyInput_inputs (l : List Input) (s : State) : (l.foldl applyInput s).inputs = s.inputs := by
  induction l generalizing s with
  | nil => rfl
  | cons e l ih => rw [List.foldl_cons, ih, applyInput_inputs]

@[simp] theorem applyInput_draw (s : State) (e : Input) : (applyInput s e).draw = s.draw := by
  unfold applyInput; split <;> (try split) <;> rfl

@[simp] theorem foldl_applyInput_draw (l : List Input) (s : State) : (l.foldl applyInput s).draw = s.draw := by
  induction l generalizing s with
  | nil => rfl
  | cons e l ih => rw [List.foldl_cons, ih, applyInput_draw]

@[simp] theorem applyInput_devOut (s : State) (e : Input) : (applyInput s e).devOut = s.devOut := by
  unfold applyInput; split <;> (try split) <;> rfl

@[simp] theorem foldl_applyInput_devOut (l : List Input) (s : State) : (l.foldl applyInput s).devOut = s.devOut := by
  induction l generalizing s with
  | nil => rfl
  | cons e l ih => rw [List.foldl_cons, ih, applyInput_devOut]

@[simp] theorem beginStep_a (s : State) : (beginStep s).a = s.a := by
  unfold beginStep; split <;> simp

@[simp] theorem beginStep_x (s : State) : (beginStep s).x = s.x := by
  unfold beginStep; split <;> simp

@[simp] theorem beginStep_y (s : State) : (beginStep s).y = s.y := by
  unfold beginStep; split <;> simp

@[simp] theorem beginStep_sp (s : State) : (beginStep s).sp = s.sp := by
  unfold beginStep; split <;> simp

@[simp] theorem beginStep_pc (s : State) : (beginStep s).pc = s.pc := by
  unfold beginStep; split <;> simp

@[simp] theorem beginStep_mem (s : State) : (beginStep s).mem = s.mem := by
  unfold beginStep; split <;> simp

@[simp] theorem beginStep_cfg (s : State) : (beginStep s).cfg = s.cfg := by
  unfold beginStep; split <;> simp

@[simp] theorem beginStep_devOut (s : State) : (beginStep s).devOut = s.devOut := by
  unfold beginStep; split <;> simp

@[simp] theorem beginStep_draw (s : State) : (beginStep s).draw = s.draw + 1 := by
  unfold beginStep; split <;> simp

@[simp] theorem beginStep_inputs (s : State) : (beginStep s).inputs = s.inputs.tail := by
  unfold beginStep; split <;> simp [*]

/-- With nothing scheduled, the start of a step only advances the index of the free values. -/
theorem beginStep_quiet {s : State} (h : s.inputs = []) : beginStep s = { s with draw := s.draw + 1 } := by
  unfold beginStep; rw [h]

end Sys2Proof.Machine
end

