-- ==== Sys2Proof/Laws/Families.lean ====
section
/-! SUPPORT. What each family's shared operation does, as one state: a proof about an instruction cites its lemma instead of
unfolding the operation. -/

namespace Sys2Proof.Machine

theorem loadA_eq (o : Operand) (s : State) :
    loadA o s = { s with
      a := operandByte o s, p := setNZ (operandByte o s) s.p, pc := s.pc + BitVec.ofNat 16 (operandLength o) } := rfl

theorem loadX_eq (o : Operand) (s : State) :
    loadX o s = { s with
      x := operandByte o s, p := setNZ (operandByte o s) s.p, pc := s.pc + BitVec.ofNat 16 (operandLength o) } := rfl

theorem loadY_eq (o : Operand) (s : State) :
    loadY o s = { s with
      y := operandByte o s, p := setNZ (operandByte o s) s.p, pc := s.pc + BitVec.ofNat 16 (operandLength o) } := rfl

theorem storeByte_eq (v : Byte) (m : MemMode) (s : State) :
    storeByte v m s = { memWrite (effAddr m s) v s with pc := s.pc + BitVec.ofNat 16 (modeLength m) } := by
  unfold storeByte advance setPc; rw [memWrite_pc]

theorem modifyA_eq (f : Byte → Byte) (s : State) :
    modifyA f s = { s with a := f s.a, p := setNZ (f s.a) s.p, pc := s.pc + 1 } := rfl

theorem modifyMem_eq (f : Byte → Byte) (m : MemMode) (s : State) :
    modifyMem f m s =
      { memWrite (effAddr m s) (f (memRead .data (effAddr m s) s)) s with
        p := setNZ (f (memRead .data (effAddr m s) s)) s.p, pc := s.pc + BitVec.ofNat 16 (modeLength m) } := by
  simp only [modifyMem, advance, setPc, setStateNZ, setFlags, memWrite_pc, memWrite_p]

theorem shiftA_eq (f : Byte → Bool → CarryResult) (s : State) :
    shiftA f s = { s with
      a := (f s.a s.p.c).r, p := setNZ (f s.a s.p.c).r { s.p with c := (f s.a s.p.c).c }, pc := s.pc + 1 } := rfl

theorem shiftMem_eq (f : Byte → Bool → CarryResult) (m : MemMode) (s : State) :
    shiftMem f m s =
      { memWrite (effAddr m s) (f (memRead .data (effAddr m s) s) s.p.c).r s with
        p := setNZ (f (memRead .data (effAddr m s) s) s.p.c).r
          { s.p with c := (f (memRead .data (effAddr m s) s) s.p.c).c }
        pc := s.pc + BitVec.ofNat 16 (modeLength m) } := by
  simp only [shiftMem, advance, setPc, setFlags, memWrite_pc]

theorem logicA_eq (f : Byte → Byte → Byte) (o : Operand) (s : State) :
    logicA f o s = { s with
      a := f s.a (operandByte o s), p := setNZ (f s.a (operandByte o s)) s.p
      pc := s.pc + BitVec.ofNat 16 (operandLength o) } := rfl

theorem compareWith_eq (r : Byte) (o : Operand) (s : State) :
    compareWith r o s = { s with
      p := compareFlags r (operandByte o s) s.p, pc := s.pc + BitVec.ofNat 16 (operandLength o) } := rfl

theorem bitTestMem_eq (m : MemMode) (s : State) :
    bitTestMem m s = { s with
      p := { s.p with
        z := s.a &&& memRead .data (effAddr m s) s == 0
        n := (memRead .data (effAddr m s) s)[7]
        v := (memRead .data (effAddr m s) s)[6] }
      pc := s.pc + BitVec.ofNat 16 (modeLength m) } := rfl

theorem testModify_eq (f : Byte → Byte → Byte) (m : MemMode) (s : State) :
    testModify f m s =
      { memWrite (effAddr m s) (f s.a (memRead .data (effAddr m s) s)) s with
        p := { s.p with z := s.a &&& memRead .data (effAddr m s) s == 0 }
        pc := s.pc + BitVec.ofNat 16 (modeLength m) } := by
  simp only [testModify, advance, setPc, setFlags, memWrite_pc]

theorem addWithCarry_eq (o : Operand) (s : State) :
    addWithCarry o s = { s with
      a := (adcResult (operandByte o s) s).r
      p := setNZ (adcResult (operandByte o s) s).r
        { s.p with c := (adcResult (operandByte o s) s).c, v := (adcResult (operandByte o s) s).v }
      pc := s.pc + BitVec.ofNat 16 (operandLength o) } := rfl

theorem subtractWithCarry_eq (o : Operand) (s : State) :
    subtractWithCarry o s = { s with
      a := (sbcResult (operandByte o s) s).r
      p := setNZ (sbcResult (operandByte o s) s).r
        { s.p with c := (sbcResult (operandByte o s) s).c, v := (sbcResult (operandByte o s) s).v }
      pc := s.pc + BitVec.ofNat 16 (operandLength o) } := rfl

theorem branch_eq (cond : Bool) (disp : Byte) (s : State) :
    branch cond disp s = { s with pc := if cond then branchTarget disp s.pc else s.pc + 2 } := rfl

theorem callSubroutine_eq (w : Addr) (s : State) :
    callSubroutine w s = { pushWord (s.pc + 2) s with pc := w } := rfl

theorem returnFromSubroutine_eq (s : State) :
    returnFromSubroutine s = { s with
      sp := s.sp + 1 + 1, pc := word (pullByte .pull1 s) (pullByte .pull2 (pulled s)) + 1 } := rfl

theorem returnFromInterrupt_eq (s : State) :
    returnFromInterrupt s = { s with
      p := loadP s.cfg (pullByte .pull1 s) s.p
      sp := s.sp + 1 + 1 + 1
      pc := word (memRead .pull2 (stackAddr (s.sp + 1 + 1)) s) (memRead .pull3 (stackAddr (s.sp + 1 + 1 + 1)) s) } := rfl

theorem unusedNop_eq (op : Byte) (s : State) :
    unusedNop op s = { s with pc := s.pc + BitVec.ofNat 16 (nopLength s.cfg.nopLen op) } := rfl

/-! ### The step -/

/-- Everything a step can do: take a reset, an NMI or an IRQ, or run the instruction at PC, from the state the environment has
left. -/
theorem step_cases (s : State) :
    ((beginStep s).resetReq = true ∧ step s = .next (takeReset (beginStep s))) ∨
    ((beginStep s).resetReq = false ∧ (beginStep s).nmiPending = true ∧ step s = .next (takeNmi (beginStep s))) ∨
    ((beginStep s).resetReq = false ∧ (beginStep s).nmiPending = false ∧ (beginStep s).irqLine = true ∧
      (beginStep s).p.i = false ∧ step s = .next (takeIrq (beginStep s))) ∨
    ((beginStep s).resetReq = false ∧ (beginStep s).nmiPending = false ∧
      ((beginStep s).irqLine = false ∨ (beginStep s).p.i = true) ∧
      step s = exec (fetchInstr (beginStep s)) (beginStep s)) := by
  unfold step boundary
  cases hr : (beginStep s).resetReq
  · cases hn : (beginStep s).nmiPending
    · cases hi : (beginStep s).irqLine
      · simp
      · cases hp : (beginStep s).p.i <;> simp
    · simp
  · simp

/-- The decoder reads the instruction that the fetch reads (R82). -/
theorem decode_fetch {table : List NopEntry} {op b1 b2 : Byte} {i : Instr} {rest : List Byte}
    (h : decode table [op, b1, b2] = .ok (i, rest)) : decodeBytes op b1 b2 = i := by
  simp only [decode] at h
  split at h
  · simp only [List.getD_cons_zero, List.getD_cons_succ, Except.ok.injEq, Prod.mk.injEq] at h
    exact h.1
  · cases h

end Sys2Proof.Machine
end

