-- ==== Sys2Proof/Laws/PerInstr.lean ====
section
/-! SUPPORT. For every instruction: the bytes the encoder writes start with its opcode and are as many as the decoder's format of
that opcode asks for (30_encoding.md R80 to R82). -/

namespace Sys2Proof.Laws

theorem nopLength_pos (table : List NopEntry) (op : Byte) : 1 ≤ nopLength table op := by
  unfold nopLength
  split
  · next e _ => cases h : e.len <;> simp [nopLenBytes]
  · exact Nat.le_refl 1

/-- The encoder's bytes of an instruction begin with its opcode and have the length that the opcode's format gives. -/
def Encoding.Statement (i : Instr) : Prop :=
  ∀ table : List NopEntry,
    (encode table i).head? = some (opcodeOf i) ∧
    (encode table i).length = opcodeLength table (opcodeOf i) ∧
    opcodeLength table (opcodeOf i) = instrLength table i

/-- The shape of an assigned opcode's proof. -/
theorem encoding_assigned {i : Instr} (op : Byte) (n : Nat) (hop : opcodeOf i = op) (h : isUnusedOpcode op = false)
    (hl : ∀ table, opcodeLength table op = n + 1) (ho : (operandBytes i).length = n) : Encoding.Statement i := by
  intro table
  have e : instrLength table i = n + 1 := by simp [instrLength, hop, h, ho, Nat.add_comm]
  exact ⟨rfl, by simp [encode, hop, hl, e, ho], by rw [hop, hl, e]⟩

/-- The shape of an unused opcode's proof. -/
theorem encoding_unused {i : Instr} (op : Byte) (hop : opcodeOf i = op) (h : isUnusedOpcode op = true)
    (ho : operandBytes i = []) (hl : ∀ table, opcodeLength table op = nopLength table op) : Encoding.Statement i := by
  intro table
  have e : instrLength table i = nopLength table op := by simp [instrLength, hop, h]
  have := nopLength_pos table op
  exact ⟨rfl, by simp [encode, hop, hl, e, ho]; omega, by rw [hop, hl, e]⟩

theorem Encoding.oraIndX (addr : Byte) : Encoding.Statement (.oraIndX addr) := encoding_assigned 0x01 1 rfl rfl (fun _ => rfl) rfl
theorem Encoding.tsbZp (addr : Byte) : Encoding.Statement (.tsbZp addr) := encoding_assigned 0x04 1 rfl rfl (fun _ => rfl) rfl
theorem Encoding.oraZp (addr : Byte) : Encoding.Statement (.oraZp addr) := encoding_assigned 0x05 1 rfl rfl (fun _ => rfl) rfl
theorem Encoding.aslZp (addr : Byte) : Encoding.Statement (.aslZp addr) := encoding_assigned 0x06 1 rfl rfl (fun _ => rfl) rfl
theorem Encoding.oraImm (val : Byte) : Encoding.Statement (.oraImm val) := encoding_assigned 0x09 1 rfl rfl (fun _ => rfl) rfl
theorem Encoding.tsbAbs (addr : Addr) : Encoding.Statement (.tsbAbs addr) := encoding_assigned 0x0C 2 rfl rfl (fun _ => rfl) rfl
theorem Encoding.oraAbs (addr : Addr) : Encoding.Statement (.oraAbs addr) := encoding_assigned 0x0D 2 rfl rfl (fun _ => rfl) rfl
theorem Encoding.aslAbs (addr : Addr) : Encoding.Statement (.aslAbs addr) := encoding_assigned 0x0E 2 rfl rfl (fun _ => rfl) rfl
theorem Encoding.bpl (disp : Byte) : Encoding.Statement (.bpl disp) := encoding_assigned 0x10 1 rfl rfl (fun _ => rfl) rfl
theorem Encoding.oraIndY (addr : Byte) : Encoding.Statement (.oraIndY addr) := encoding_assigned 0x11 1 rfl rfl (fun _ => rfl) rfl
theorem Encoding.oraInd (addr : Byte) : Encoding.Statement (.oraInd addr) := encoding_assigned 0x12 1 rfl rfl (fun _ => rfl) rfl
theorem Encoding.trbZp (addr : Byte) : Encoding.Statement (.trbZp addr) := encoding_assigned 0x14 1 rfl rfl (fun _ => rfl) rfl
theorem Encoding.oraZpX (addr : Byte) : Encoding.Statement (.oraZpX addr) := encoding_assigned 0x15 1 rfl rfl (fun _ => rfl) rfl
theorem Encoding.aslZpX (addr : Byte) : Encoding.Statement (.aslZpX addr) := encoding_assigned 0x16 1 rfl rfl (fun _ => rfl) rfl
theorem Encoding.oraAbsY (addr : Addr) : Encoding.Statement (.oraAbsY addr) := encoding_assigned 0x19 2 rfl rfl (fun _ => rfl) rfl
theorem Encoding.trbAbs (addr : Addr) : Encoding.Statement (.trbAbs addr) := encoding_assigned 0x1C 2 rfl rfl (fun _ => rfl) rfl
theorem Encoding.oraAbsX (addr : Addr) : Encoding.Statement (.oraAbsX addr) := encoding_assigned 0x1D 2 rfl rfl (fun _ => rfl) rfl
theorem Encoding.aslAbsX (addr : Addr) : Encoding.Statement (.aslAbsX addr) := encoding_assigned 0x1E 2 rfl rfl (fun _ => rfl) rfl
theorem Encoding.jsr (addr : Addr) : Encoding.Statement (.jsr addr) := encoding_assigned 0x20 2 rfl rfl (fun _ => rfl) rfl
theorem Encoding.andIndX (addr : Byte) : Encoding.Statement (.andIndX addr) := encoding_assigned 0x21 1 rfl rfl (fun _ => rfl) rfl
theorem Encoding.bitZp (addr : Byte) : Encoding.Statement (.bitZp addr) := encoding_assigned 0x24 1 rfl rfl (fun _ => rfl) rfl
theorem Encoding.andZp (addr : Byte) : Encoding.Statement (.andZp addr) := encoding_assigned 0x25 1 rfl rfl (fun _ => rfl) rfl
theorem Encoding.rolZp (addr : Byte) : Encoding.Statement (.rolZp addr) := encoding_assigned 0x26 1 rfl rfl (fun _ => rfl) rfl
theorem Encoding.andImm (val : Byte) : Encoding.Statement (.andImm val) := encoding_assigned 0x29 1 rfl rfl (fun _ => rfl) rfl
theorem Encoding.bitAbs (addr : Addr) : Encoding.Statement (.bitAbs addr) := encoding_assigned 0x2C 2 rfl rfl (fun _ => rfl) rfl
theorem Encoding.andAbs (addr : Addr) : Encoding.Statement (.andAbs addr) := encoding_assigned 0x2D 2 rfl rfl (fun _ => rfl) rfl
theorem Encoding.rolAbs (addr : Addr) : Encoding.Statement (.rolAbs addr) := encoding_assigned 0x2E 2 rfl rfl (fun _ => rfl) rfl
theorem Encoding.bmi (disp : Byte) : Encoding.Statement (.bmi disp) := encoding_assigned 0x30 1 rfl rfl (fun _ => rfl) rfl
theorem Encoding.andIndY (addr : Byte) : Encoding.Statement (.andIndY addr) := encoding_assigned 0x31 1 rfl rfl (fun _ => rfl) rfl
theorem Encoding.andInd (addr : Byte) : Encoding.Statement (.andInd addr) := encoding_assigned 0x32 1 rfl rfl (fun _ => rfl) rfl
theorem Encoding.bitZpX (addr : Byte) : Encoding.Statement (.bitZpX addr) := encoding_assigned 0x34 1 rfl rfl (fun _ => rfl) rfl
theorem Encoding.andZpX (addr : Byte) : Encoding.Statement (.andZpX addr) := encoding_assigned 0x35 1 rfl rfl (fun _ => rfl) rfl
theorem Encoding.rolZpX (addr : Byte) : Encoding.Statement (.rolZpX addr) := encoding_assigned 0x36 1 rfl rfl (fun _ => rfl) rfl
theorem Encoding.andAbsY (addr : Addr) : Encoding.Statement (.andAbsY addr) := encoding_assigned 0x39 2 rfl rfl (fun _ => rfl) rfl
theorem Encoding.bitAbsX (addr : Addr) : Encoding.Statement (.bitAbsX addr) := encoding_assigned 0x3C 2 rfl rfl (fun _ => rfl) rfl
theorem Encoding.andAbsX (addr : Addr) : Encoding.Statement (.andAbsX addr) := encoding_assigned 0x3D 2 rfl rfl (fun _ => rfl) rfl
theorem Encoding.rolAbsX (addr : Addr) : Encoding.Statement (.rolAbsX addr) := encoding_assigned 0x3E 2 rfl rfl (fun _ => rfl) rfl
theorem Encoding.eorIndX (addr : Byte) : Encoding.Statement (.eorIndX addr) := encoding_assigned 0x41 1 rfl rfl (fun _ => rfl) rfl
theorem Encoding.eorZp (addr : Byte) : Encoding.Statement (.eorZp addr) := encoding_assigned 0x45 1 rfl rfl (fun _ => rfl) rfl
theorem Encoding.lsrZp (addr : Byte) : Encoding.Statement (.lsrZp addr) := encoding_assigned 0x46 1 rfl rfl (fun _ => rfl) rfl
theorem Encoding.eorImm (val : Byte) : Encoding.Statement (.eorImm val) := encoding_assigned 0x49 1 rfl rfl (fun _ => rfl) rfl
theorem Encoding.jmpAbs (addr : Addr) : Encoding.Statement (.jmpAbs addr) := encoding_assigned 0x4C 2 rfl rfl (fun _ => rfl) rfl
theorem Encoding.eorAbs (addr : Addr) : Encoding.Statement (.eorAbs addr) := encoding_assigned 0x4D 2 rfl rfl (fun _ => rfl) rfl
theorem Encoding.lsrAbs (addr : Addr) : Encoding.Statement (.lsrAbs addr) := encoding_assigned 0x4E 2 rfl rfl (fun _ => rfl) rfl
theorem Encoding.bvc (disp : Byte) : Encoding.Statement (.bvc disp) := encoding_assigned 0x50 1 rfl rfl (fun _ => rfl) rfl
theorem Encoding.eorIndY (addr : Byte) : Encoding.Statement (.eorIndY addr) := encoding_assigned 0x51 1 rfl rfl (fun _ => rfl) rfl
theorem Encoding.eorInd (addr : Byte) : Encoding.Statement (.eorInd addr) := encoding_assigned 0x52 1 rfl rfl (fun _ => rfl) rfl
theorem Encoding.eorZpX (addr : Byte) : Encoding.Statement (.eorZpX addr) := encoding_assigned 0x55 1 rfl rfl (fun _ => rfl) rfl
theorem Encoding.lsrZpX (addr : Byte) : Encoding.Statement (.lsrZpX addr) := encoding_assigned 0x56 1 rfl rfl (fun _ => rfl) rfl
theorem Encoding.eorAbsY (addr : Addr) : Encoding.Statement (.eorAbsY addr) := encoding_assigned 0x59 2 rfl rfl (fun _ => rfl) rfl
theorem Encoding.eorAbsX (addr : Addr) : Encoding.Statement (.eorAbsX addr) := encoding_assigned 0x5D 2 rfl rfl (fun _ => rfl) rfl
theorem Encoding.lsrAbsX (addr : Addr) : Encoding.Statement (.lsrAbsX addr) := encoding_assigned 0x5E 2 rfl rfl (fun _ => rfl) rfl
theorem Encoding.adcIndX (addr : Byte) : Encoding.Statement (.adcIndX addr) := encoding_assigned 0x61 1 rfl rfl (fun _ => rfl) rfl
theorem Encoding.stzZp (addr : Byte) : Encoding.Statement (.stzZp addr) := encoding_assigned 0x64 1 rfl rfl (fun _ => rfl) rfl
theorem Encoding.adcZp (addr : Byte) : Encoding.Statement (.adcZp addr) := encoding_assigned 0x65 1 rfl rfl (fun _ => rfl) rfl
theorem Encoding.rorZp (addr : Byte) : Encoding.Statement (.rorZp addr) := encoding_assigned 0x66 1 rfl rfl (fun _ => rfl) rfl
theorem Encoding.adcImm (val : Byte) : Encoding.Statement (.adcImm val) := encoding_assigned 0x69 1 rfl rfl (fun _ => rfl) rfl
theorem Encoding.jmpInd (addr : Addr) : Encoding.Statement (.jmpInd addr) := encoding_assigned 0x6C 2 rfl rfl (fun _ => rfl) rfl
theorem Encoding.adcAbs (addr : Addr) : Encoding.Statement (.adcAbs addr) := encoding_assigned 0x6D 2 rfl rfl (fun _ => rfl) rfl
theorem Encoding.rorAbs (addr : Addr) : Encoding.Statement (.rorAbs addr) := encoding_assigned 0x6E 2 rfl rfl (fun _ => rfl) rfl
theorem Encoding.bvs (disp : Byte) : Encoding.Statement (.bvs disp) := encoding_assigned 0x70 1 rfl rfl (fun _ => rfl) rfl
theorem Encoding.adcIndY (addr : Byte) : Encoding.Statement (.adcIndY addr) := encoding_assigned 0x71 1 rfl rfl (fun _ => rfl) rfl
theorem Encoding.adcInd (addr : Byte) : Encoding.Statement (.adcInd addr) := encoding_assigned 0x72 1 rfl rfl (fun _ => rfl) rfl
theorem Encoding.stzZpX (addr : Byte) : Encoding.Statement (.stzZpX addr) := encoding_assigned 0x74 1 rfl rfl (fun _ => rfl) rfl
theorem Encoding.adcZpX (addr : Byte) : Encoding.Statement (.adcZpX addr) := encoding_assigned 0x75 1 rfl rfl (fun _ => rfl) rfl
theorem Encoding.rorZpX (addr : Byte) : Encoding.Statement (.rorZpX addr) := encoding_assigned 0x76 1 rfl rfl (fun _ => rfl) rfl
theorem Encoding.adcAbsY (addr : Addr) : Encoding.Statement (.adcAbsY addr) := encoding_assigned 0x79 2 rfl rfl (fun _ => rfl) rfl
theorem Encoding.jmpIndX (addr : Addr) : Encoding.Statement (.jmpIndX addr) := encoding_assigned 0x7C 2 rfl rfl (fun _ => rfl) rfl
theorem Encoding.adcAbsX (addr : Addr) : Encoding.Statement (.adcAbsX addr) := encoding_assigned 0x7D 2 rfl rfl (fun _ => rfl) rfl
theorem Encoding.rorAbsX (addr : Addr) : Encoding.Statement (.rorAbsX addr) := encoding_assigned 0x7E 2 rfl rfl (fun _ => rfl) rfl
theorem Encoding.bra (disp : Byte) : Encoding.Statement (.bra disp) := encoding_assigned 0x80 1 rfl rfl (fun _ => rfl) rfl
theorem Encoding.staIndX (addr : Byte) : Encoding.Statement (.staIndX addr) := encoding_assigned 0x81 1 rfl rfl (fun _ => rfl) rfl
theorem Encoding.styZp (addr : Byte) : Encoding.Statement (.styZp addr) := encoding_assigned 0x84 1 rfl rfl (fun _ => rfl) rfl
theorem Encoding.staZp (addr : Byte) : Encoding.Statement (.staZp addr) := encoding_assigned 0x85 1 rfl rfl (fun _ => rfl) rfl
theorem Encoding.stxZp (addr : Byte) : Encoding.Statement (.stxZp addr) := encoding_assigned 0x86 1 rfl rfl (fun _ => rfl) rfl
theorem Encoding.bitImm (val : Byte) : Encoding.Statement (.bitImm val) := encoding_assigned 0x89 1 rfl rfl (fun _ => rfl) rfl
theorem Encoding.styAbs (addr : Addr) : Encoding.Statement (.styAbs addr) := encoding_assigned 0x8C 2 rfl rfl (fun _ => rfl) rfl
theorem Encoding.staAbs (addr : Addr) : Encoding.Statement (.staAbs addr) := encoding_assigned 0x8D 2 rfl rfl (fun _ => rfl) rfl
theorem Encoding.stxAbs (addr : Addr) : Encoding.Statement (.stxAbs addr) := encoding_assigned 0x8E 2 rfl rfl (fun _ => rfl) rfl
theorem Encoding.bcc (disp : Byte) : Encoding.Statement (.bcc disp) := encoding_assigned 0x90 1 rfl rfl (fun _ => rfl) rfl
theorem Encoding.staIndY (addr : Byte) : Encoding.Statement (.staIndY addr) := encoding_assigned 0x91 1 rfl rfl (fun _ => rfl) rfl
theorem Encoding.staInd (addr : Byte) : Encoding.Statement (.staInd addr) := encoding_assigned 0x92 1 rfl rfl (fun _ => rfl) rfl
theorem Encoding.styZpX (addr : Byte) : Encoding.Statement (.styZpX addr) := encoding_assigned 0x94 1 rfl rfl (fun _ => rfl) rfl
theorem Encoding.staZpX (addr : Byte) : Encoding.Statement (.staZpX addr) := encoding_assigned 0x95 1 rfl rfl (fun _ => rfl) rfl
theorem Encoding.stxZpY (addr : Byte) : Encoding.Statement (.stxZpY addr) := encoding_assigned 0x96 1 rfl rfl (fun _ => rfl) rfl
theorem Encoding.staAbsY (addr : Addr) : Encoding.Statement (.staAbsY addr) := encoding_assigned 0x99 2 rfl rfl (fun _ => rfl) rfl
theorem Encoding.stzAbs (addr : Addr) : Encoding.Statement (.stzAbs addr) := encoding_assigned 0x9C 2 rfl rfl (fun _ => rfl) rfl
theorem Encoding.staAbsX (addr : Addr) : Encoding.Statement (.staAbsX addr) := encoding_assigned 0x9D 2 rfl rfl (fun _ => rfl) rfl
theorem Encoding.stzAbsX (addr : Addr) : Encoding.Statement (.stzAbsX addr) := encoding_assigned 0x9E 2 rfl rfl (fun _ => rfl) rfl
theorem Encoding.ldyImm (val : Byte) : Encoding.Statement (.ldyImm val) := encoding_assigned 0xA0 1 rfl rfl (fun _ => rfl) rfl
theorem Encoding.ldaIndX (addr : Byte) : Encoding.Statement (.ldaIndX addr) := encoding_assigned 0xA1 1 rfl rfl (fun _ => rfl) rfl
theorem Encoding.ldxImm (val : Byte) : Encoding.Statement (.ldxImm val) := encoding_assigned 0xA2 1 rfl rfl (fun _ => rfl) rfl
theorem Encoding.ldyZp (addr : Byte) : Encoding.Statement (.ldyZp addr) := encoding_assigned 0xA4 1 rfl rfl (fun _ => rfl) rfl
theorem Encoding.ldaZp (addr : Byte) : Encoding.Statement (.ldaZp addr) := encoding_assigned 0xA5 1 rfl rfl (fun _ => rfl) rfl
theorem Encoding.ldxZp (addr : Byte) : Encoding.Statement (.ldxZp addr) := encoding_assigned 0xA6 1 rfl rfl (fun _ => rfl) rfl
theorem Encoding.ldaImm (val : Byte) : Encoding.Statement (.ldaImm val) := encoding_assigned 0xA9 1 rfl rfl (fun _ => rfl) rfl
theorem Encoding.ldyAbs (addr : Addr) : Encoding.Statement (.ldyAbs addr) := encoding_assigned 0xAC 2 rfl rfl (fun _ => rfl) rfl
theorem Encoding.ldaAbs (addr : Addr) : Encoding.Statement (.ldaAbs addr) := encoding_assigned 0xAD 2 rfl rfl (fun _ => rfl) rfl
theorem Encoding.ldxAbs (addr : Addr) : Encoding.Statement (.ldxAbs addr) := encoding_assigned 0xAE 2 rfl rfl (fun _ => rfl) rfl
theorem Encoding.bcs (disp : Byte) : Encoding.Statement (.bcs disp) := encoding_assigned 0xB0 1 rfl rfl (fun _ => rfl) rfl
theorem Encoding.ldaIndY (addr : Byte) : Encoding.Statement (.ldaIndY addr) := encoding_assigned 0xB1 1 rfl rfl (fun _ => rfl) rfl
theorem Encoding.ldaInd (addr : Byte) : Encoding.Statement (.ldaInd addr) := encoding_assigned 0xB2 1 rfl rfl (fun _ => rfl) rfl
theorem Encoding.ldyZpX (addr : Byte) : Encoding.Statement (.ldyZpX addr) := encoding_assigned 0xB4 1 rfl rfl (fun _ => rfl) rfl
theorem Encoding.ldaZpX (addr : Byte) : Encoding.Statement (.ldaZpX addr) := encoding_assigned 0xB5 1 rfl rfl (fun _ => rfl) rfl
theorem Encoding.ldxZpY (addr : Byte) : Encoding.Statement (.ldxZpY addr) := encoding_assigned 0xB6 1 rfl rfl (fun _ => rfl) rfl
theorem Encoding.ldaAbsY (addr : Addr) : Encoding.Statement (.ldaAbsY addr) := encoding_assigned 0xB9 2 rfl rfl (fun _ => rfl) rfl
theorem Encoding.ldyAbsX (addr : Addr) : Encoding.Statement (.ldyAbsX addr) := encoding_assigned 0xBC 2 rfl rfl (fun _ => rfl) rfl
theorem Encoding.ldaAbsX (addr : Addr) : Encoding.Statement (.ldaAbsX addr) := encoding_assigned 0xBD 2 rfl rfl (fun _ => rfl) rfl
theorem Encoding.ldxAbsY (addr : Addr) : Encoding.Statement (.ldxAbsY addr) := encoding_assigned 0xBE 2 rfl rfl (fun _ => rfl) rfl
theorem Encoding.cpyImm (val : Byte) : Encoding.Statement (.cpyImm val) := encoding_assigned 0xC0 1 rfl rfl (fun _ => rfl) rfl
theorem Encoding.cmpIndX (addr : Byte) : Encoding.Statement (.cmpIndX addr) := encoding_assigned 0xC1 1 rfl rfl (fun _ => rfl) rfl
theorem Encoding.cpyZp (addr : Byte) : Encoding.Statement (.cpyZp addr) := encoding_assigned 0xC4 1 rfl rfl (fun _ => rfl) rfl
theorem Encoding.cmpZp (addr : Byte) : Encoding.Statement (.cmpZp addr) := encoding_assigned 0xC5 1 rfl rfl (fun _ => rfl) rfl
theorem Encoding.decZp (addr : Byte) : Encoding.Statement (.decZp addr) := encoding_assigned 0xC6 1 rfl rfl (fun _ => rfl) rfl
theorem Encoding.cmpImm (val : Byte) : Encoding.Statement (.cmpImm val) := encoding_assigned 0xC9 1 rfl rfl (fun _ => rfl) rfl
theorem Encoding.cpyAbs (addr : Addr) : Encoding.Statement (.cpyAbs addr) := encoding_assigned 0xCC 2 rfl rfl (fun _ => rfl) rfl
theorem Encoding.cmpAbs (addr : Addr) : Encoding.Statement (.cmpAbs addr) := encoding_assigned 0xCD 2 rfl rfl (fun _ => rfl) rfl
theorem Encoding.decAbs (addr : Addr) : Encoding.Statement (.decAbs addr) := encoding_assigned 0xCE 2 rfl rfl (fun _ => rfl) rfl
theorem Encoding.bne (disp : Byte) : Encoding.Statement (.bne disp) := encoding_assigned 0xD0 1 rfl rfl (fun _ => rfl) rfl
theorem Encoding.cmpIndY (addr : Byte) : Encoding.Statement (.cmpIndY addr) := encoding_assigned 0xD1 1 rfl rfl (fun _ => rfl) rfl
theorem Encoding.cmpInd (addr : Byte) : Encoding.Statement (.cmpInd addr) := encoding_assigned 0xD2 1 rfl rfl (fun _ => rfl) rfl
theorem Encoding.cmpZpX (addr : Byte) : Encoding.Statement (.cmpZpX addr) := encoding_assigned 0xD5 1 rfl rfl (fun _ => rfl) rfl
theorem Encoding.decZpX (addr : Byte) : Encoding.Statement (.decZpX addr) := encoding_assigned 0xD6 1 rfl rfl (fun _ => rfl) rfl
theorem Encoding.cmpAbsY (addr : Addr) : Encoding.Statement (.cmpAbsY addr) := encoding_assigned 0xD9 2 rfl rfl (fun _ => rfl) rfl
theorem Encoding.cmpAbsX (addr : Addr) : Encoding.Statement (.cmpAbsX addr) := encoding_assigned 0xDD 2 rfl rfl (fun _ => rfl) rfl
theorem Encoding.decAbsX (addr : Addr) : Encoding.Statement (.decAbsX addr) := encoding_assigned 0xDE 2 rfl rfl (fun _ => rfl) rfl
theorem Encoding.cpxImm (val : Byte) : Encoding.Statement (.cpxImm val) := encoding_assigned 0xE0 1 rfl rfl (fun _ => rfl) rfl
theorem Encoding.sbcIndX (addr : Byte) : Encoding.Statement (.sbcIndX addr) := encoding_assigned 0xE1 1 rfl rfl (fun _ => rfl) rfl
theorem Encoding.cpxZp (addr : Byte) : Encoding.Statement (.cpxZp addr) := encoding_assigned 0xE4 1 rfl rfl (fun _ => rfl) rfl
theorem Encoding.sbcZp (addr : Byte) : Encoding.Statement (.sbcZp addr) := encoding_assigned 0xE5 1 rfl rfl (fun _ => rfl) rfl
theorem Encoding.incZp (addr : Byte) : Encoding.Statement (.incZp addr) := encoding_assigned 0xE6 1 rfl rfl (fun _ => rfl) rfl
theorem Encoding.sbcImm (val : Byte) : Encoding.Statement (.sbcImm val) := encoding_assigned 0xE9 1 rfl rfl (fun _ => rfl) rfl
theorem Encoding.cpxAbs (addr : Addr) : Encoding.Statement (.cpxAbs addr) := encoding_assigned 0xEC 2 rfl rfl (fun _ => rfl) rfl
theorem Encoding.sbcAbs (addr : Addr) : Encoding.Statement (.sbcAbs addr) := encoding_assigned 0xED 2 rfl rfl (fun _ => rfl) rfl
theorem Encoding.incAbs (addr : Addr) : Encoding.Statement (.incAbs addr) := encoding_assigned 0xEE 2 rfl rfl (fun _ => rfl) rfl
theorem Encoding.beq (disp : Byte) : Encoding.Statement (.beq disp) := encoding_assigned 0xF0 1 rfl rfl (fun _ => rfl) rfl
theorem Encoding.sbcIndY (addr : Byte) : Encoding.Statement (.sbcIndY addr) := encoding_assigned 0xF1 1 rfl rfl (fun _ => rfl) rfl
theorem Encoding.sbcInd (addr : Byte) : Encoding.Statement (.sbcInd addr) := encoding_assigned 0xF2 1 rfl rfl (fun _ => rfl) rfl
theorem Encoding.sbcZpX (addr : Byte) : Encoding.Statement (.sbcZpX addr) := encoding_assigned 0xF5 1 rfl rfl (fun _ => rfl) rfl
theorem Encoding.incZpX (addr : Byte) : Encoding.Statement (.incZpX addr) := encoding_assigned 0xF6 1 rfl rfl (fun _ => rfl) rfl
theorem Encoding.sbcAbsY (addr : Addr) : Encoding.Statement (.sbcAbsY addr) := encoding_assigned 0xF9 2 rfl rfl (fun _ => rfl) rfl
theorem Encoding.sbcAbsX (addr : Addr) : Encoding.Statement (.sbcAbsX addr) := encoding_assigned 0xFD 2 rfl rfl (fun _ => rfl) rfl
theorem Encoding.incAbsX (addr : Addr) : Encoding.Statement (.incAbsX addr) := encoding_assigned 0xFE 2 rfl rfl (fun _ => rfl) rfl
theorem Encoding.brk : Encoding.Statement .brk := encoding_assigned 0x00 0 rfl rfl (fun _ => rfl) rfl
theorem Encoding.php : Encoding.Statement .php := encoding_assigned 0x08 0 rfl rfl (fun _ => rfl) rfl
theorem Encoding.aslA : Encoding.Statement .aslA := encoding_assigned 0x0A 0 rfl rfl (fun _ => rfl) rfl
theorem Encoding.clc : Encoding.Statement .clc := encoding_assigned 0x18 0 rfl rfl (fun _ => rfl) rfl
theorem Encoding.incA : Encoding.Statement .incA := encoding_assigned 0x1A 0 rfl rfl (fun _ => rfl) rfl
theorem Encoding.plp : Encoding.Statement .plp := encoding_assigned 0x28 0 rfl rfl (fun _ => rfl) rfl
theorem Encoding.rolA : Encoding.Statement .rolA := encoding_assigned 0x2A 0 rfl rfl (fun _ => rfl) rfl
theorem Encoding.sec : Encoding.Statement .sec := encoding_assigned 0x38 0 rfl rfl (fun _ => rfl) rfl
theorem Encoding.decA : Encoding.Statement .decA := encoding_assigned 0x3A 0 rfl rfl (fun _ => rfl) rfl
theorem Encoding.rti : Encoding.Statement .rti := encoding_assigned 0x40 0 rfl rfl (fun _ => rfl) rfl
theorem Encoding.pha : Encoding.Statement .pha := encoding_assigned 0x48 0 rfl rfl (fun _ => rfl) rfl
theorem Encoding.lsrA : Encoding.Statement .lsrA := encoding_assigned 0x4A 0 rfl rfl (fun _ => rfl) rfl
theorem Encoding.cli : Encoding.Statement .cli := encoding_assigned 0x58 0 rfl rfl (fun _ => rfl) rfl
theorem Encoding.phy : Encoding.Statement .phy := encoding_assigned 0x5A 0 rfl rfl (fun _ => rfl) rfl
theorem Encoding.rts : Encoding.Statement .rts := encoding_assigned 0x60 0 rfl rfl (fun _ => rfl) rfl
theorem Encoding.pla : Encoding.Statement .pla := encoding_assigned 0x68 0 rfl rfl (fun _ => rfl) rfl
theorem Encoding.rorA : Encoding.Statement .rorA := encoding_assigned 0x6A 0 rfl rfl (fun _ => rfl) rfl
theorem Encoding.sei : Encoding.Statement .sei := encoding_assigned 0x78 0 rfl rfl (fun _ => rfl) rfl
theorem Encoding.ply : Encoding.Statement .ply := encoding_assigned 0x7A 0 rfl rfl (fun _ => rfl) rfl
theorem Encoding.dey : Encoding.Statement .dey := encoding_assigned 0x88 0 rfl rfl (fun _ => rfl) rfl
theorem Encoding.txa : Encoding.Statement .txa := encoding_assigned 0x8A 0 rfl rfl (fun _ => rfl) rfl
theorem Encoding.tya : Encoding.Statement .tya := encoding_assigned 0x98 0 rfl rfl (fun _ => rfl) rfl
theorem Encoding.txs : Encoding.Statement .txs := encoding_assigned 0x9A 0 rfl rfl (fun _ => rfl) rfl
theorem Encoding.tay : Encoding.Statement .tay := encoding_assigned 0xA8 0 rfl rfl (fun _ => rfl) rfl
theorem Encoding.tax : Encoding.Statement .tax := encoding_assigned 0xAA 0 rfl rfl (fun _ => rfl) rfl
theorem Encoding.clv : Encoding.Statement .clv := encoding_assigned 0xB8 0 rfl rfl (fun _ => rfl) rfl
theorem Encoding.tsx : Encoding.Statement .tsx := encoding_assigned 0xBA 0 rfl rfl (fun _ => rfl) rfl
theorem Encoding.iny : Encoding.Statement .iny := encoding_assigned 0xC8 0 rfl rfl (fun _ => rfl) rfl
theorem Encoding.dex : Encoding.Statement .dex := encoding_assigned 0xCA 0 rfl rfl (fun _ => rfl) rfl
theorem Encoding.cld : Encoding.Statement .cld := encoding_assigned 0xD8 0 rfl rfl (fun _ => rfl) rfl
theorem Encoding.phx : Encoding.Statement .phx := encoding_assigned 0xDA 0 rfl rfl (fun _ => rfl) rfl
theorem Encoding.inx : Encoding.Statement .inx := encoding_assigned 0xE8 0 rfl rfl (fun _ => rfl) rfl
theorem Encoding.nop : Encoding.Statement .nop := encoding_assigned 0xEA 0 rfl rfl (fun _ => rfl) rfl
theorem Encoding.sed : Encoding.Statement .sed := encoding_assigned 0xF8 0 rfl rfl (fun _ => rfl) rfl
theorem Encoding.plx : Encoding.Statement .plx := encoding_assigned 0xFA 0 rfl rfl (fun _ => rfl) rfl
theorem Encoding.nop02 : Encoding.Statement .nop02 := encoding_unused 0x02 rfl rfl rfl fun _ => rfl
theorem Encoding.nop03 : Encoding.Statement .nop03 := encoding_unused 0x03 rfl rfl rfl fun _ => rfl
theorem Encoding.nop07 : Encoding.Statement .nop07 := encoding_unused 0x07 rfl rfl rfl fun _ => rfl
theorem Encoding.nop0B : Encoding.Statement .nop0B := encoding_unused 0x0B rfl rfl rfl fun _ => rfl
theorem Encoding.nop0F : Encoding.Statement .nop0F := encoding_unused 0x0F rfl rfl rfl fun _ => rfl
theorem Encoding.nop13 : Encoding.Statement .nop13 := encoding_unused 0x13 rfl rfl rfl fun _ => rfl
theorem Encoding.nop17 : Encoding.Statement .nop17 := encoding_unused 0x17 rfl rfl rfl fun _ => rfl
theorem Encoding.nop1B : Encoding.Statement .nop1B := encoding_unused 0x1B rfl rfl rfl fun _ => rfl
theorem Encoding.nop1F : Encoding.Statement .nop1F := encoding_unused 0x1F rfl rfl rfl fun _ => rfl
theorem Encoding.nop22 : Encoding.Statement .nop22 := encoding_unused 0x22 rfl rfl rfl fun _ => rfl
theorem Encoding.nop23 : Encoding.Statement .nop23 := encoding_unused 0x23 rfl rfl rfl fun _ => rfl
theorem Encoding.nop27 : Encoding.Statement .nop27 := encoding_unused 0x27 rfl rfl rfl fun _ => rfl
theorem Encoding.nop2B : Encoding.Statement .nop2B := encoding_unused 0x2B rfl rfl rfl fun _ => rfl
theorem Encoding.nop2F : Encoding.Statement .nop2F := encoding_unused 0x2F rfl rfl rfl fun _ => rfl
theorem Encoding.nop33 : Encoding.Statement .nop33 := encoding_unused 0x33 rfl rfl rfl fun _ => rfl
theorem Encoding.nop37 : Encoding.Statement .nop37 := encoding_unused 0x37 rfl rfl rfl fun _ => rfl
theorem Encoding.nop3B : Encoding.Statement .nop3B := encoding_unused 0x3B rfl rfl rfl fun _ => rfl
theorem Encoding.nop3F : Encoding.Statement .nop3F := encoding_unused 0x3F rfl rfl rfl fun _ => rfl
theorem Encoding.nop42 : Encoding.Statement .nop42 := encoding_unused 0x42 rfl rfl rfl fun _ => rfl
theorem Encoding.nop43 : Encoding.Statement .nop43 := encoding_unused 0x43 rfl rfl rfl fun _ => rfl
theorem Encoding.nop44 : Encoding.Statement .nop44 := encoding_unused 0x44 rfl rfl rfl fun _ => rfl
theorem Encoding.nop47 : Encoding.Statement .nop47 := encoding_unused 0x47 rfl rfl rfl fun _ => rfl
theorem Encoding.nop4B : Encoding.Statement .nop4B := encoding_unused 0x4B rfl rfl rfl fun _ => rfl
theorem Encoding.nop4F : Encoding.Statement .nop4F := encoding_unused 0x4F rfl rfl rfl fun _ => rfl
theorem Encoding.nop53 : Encoding.Statement .nop53 := encoding_unused 0x53 rfl rfl rfl fun _ => rfl
theorem Encoding.nop54 : Encoding.Statement .nop54 := encoding_unused 0x54 rfl rfl rfl fun _ => rfl
theorem Encoding.nop57 : Encoding.Statement .nop57 := encoding_unused 0x57 rfl rfl rfl fun _ => rfl
theorem Encoding.nop5B : Encoding.Statement .nop5B := encoding_unused 0x5B rfl rfl rfl fun _ => rfl
theorem Encoding.nop5C : Encoding.Statement .nop5C := encoding_unused 0x5C rfl rfl rfl fun _ => rfl
theorem Encoding.nop5F : Encoding.Statement .nop5F := encoding_unused 0x5F rfl rfl rfl fun _ => rfl
theorem Encoding.nop62 : Encoding.Statement .nop62 := encoding_unused 0x62 rfl rfl rfl fun _ => rfl
theorem Encoding.nop63 : Encoding.Statement .nop63 := encoding_unused 0x63 rfl rfl rfl fun _ => rfl
theorem Encoding.nop67 : Encoding.Statement .nop67 := encoding_unused 0x67 rfl rfl rfl fun _ => rfl
theorem Encoding.nop6B : Encoding.Statement .nop6B := encoding_unused 0x6B rfl rfl rfl fun _ => rfl
theorem Encoding.nop6F : Encoding.Statement .nop6F := encoding_unused 0x6F rfl rfl rfl fun _ => rfl
theorem Encoding.nop73 : Encoding.Statement .nop73 := encoding_unused 0x73 rfl rfl rfl fun _ => rfl
theorem Encoding.nop77 : Encoding.Statement .nop77 := encoding_unused 0x77 rfl rfl rfl fun _ => rfl
theorem Encoding.nop7B : Encoding.Statement .nop7B := encoding_unused 0x7B rfl rfl rfl fun _ => rfl
theorem Encoding.nop7F : Encoding.Statement .nop7F := encoding_unused 0x7F rfl rfl rfl fun _ => rfl
theorem Encoding.nop82 : Encoding.Statement .nop82 := encoding_unused 0x82 rfl rfl rfl fun _ => rfl
theorem Encoding.nop83 : Encoding.Statement .nop83 := encoding_unused 0x83 rfl rfl rfl fun _ => rfl
theorem Encoding.nop87 : Encoding.Statement .nop87 := encoding_unused 0x87 rfl rfl rfl fun _ => rfl
theorem Encoding.nop8B : Encoding.Statement .nop8B := encoding_unused 0x8B rfl rfl rfl fun _ => rfl
theorem Encoding.nop8F : Encoding.Statement .nop8F := encoding_unused 0x8F rfl rfl rfl fun _ => rfl
theorem Encoding.nop93 : Encoding.Statement .nop93 := encoding_unused 0x93 rfl rfl rfl fun _ => rfl
theorem Encoding.nop97 : Encoding.Statement .nop97 := encoding_unused 0x97 rfl rfl rfl fun _ => rfl
theorem Encoding.nop9B : Encoding.Statement .nop9B := encoding_unused 0x9B rfl rfl rfl fun _ => rfl
theorem Encoding.nop9F : Encoding.Statement .nop9F := encoding_unused 0x9F rfl rfl rfl fun _ => rfl
theorem Encoding.nopA3 : Encoding.Statement .nopA3 := encoding_unused 0xA3 rfl rfl rfl fun _ => rfl
theorem Encoding.nopA7 : Encoding.Statement .nopA7 := encoding_unused 0xA7 rfl rfl rfl fun _ => rfl
theorem Encoding.nopAB : Encoding.Statement .nopAB := encoding_unused 0xAB rfl rfl rfl fun _ => rfl
theorem Encoding.nopAF : Encoding.Statement .nopAF := encoding_unused 0xAF rfl rfl rfl fun _ => rfl
theorem Encoding.nopB3 : Encoding.Statement .nopB3 := encoding_unused 0xB3 rfl rfl rfl fun _ => rfl
theorem Encoding.nopB7 : Encoding.Statement .nopB7 := encoding_unused 0xB7 rfl rfl rfl fun _ => rfl
theorem Encoding.nopBB : Encoding.Statement .nopBB := encoding_unused 0xBB rfl rfl rfl fun _ => rfl
theorem Encoding.nopBF : Encoding.Statement .nopBF := encoding_unused 0xBF rfl rfl rfl fun _ => rfl
theorem Encoding.nopC2 : Encoding.Statement .nopC2 := encoding_unused 0xC2 rfl rfl rfl fun _ => rfl
theorem Encoding.nopC3 : Encoding.Statement .nopC3 := encoding_unused 0xC3 rfl rfl rfl fun _ => rfl
theorem Encoding.nopC7 : Encoding.Statement .nopC7 := encoding_unused 0xC7 rfl rfl rfl fun _ => rfl
theorem Encoding.nopCB : Encoding.Statement .nopCB := encoding_unused 0xCB rfl rfl rfl fun _ => rfl
theorem Encoding.nopCF : Encoding.Statement .nopCF := encoding_unused 0xCF rfl rfl rfl fun _ => rfl
theorem Encoding.nopD3 : Encoding.Statement .nopD3 := encoding_unused 0xD3 rfl rfl rfl fun _ => rfl
theorem Encoding.nopD4 : Encoding.Statement .nopD4 := encoding_unused 0xD4 rfl rfl rfl fun _ => rfl
theorem Encoding.nopD7 : Encoding.Statement .nopD7 := encoding_unused 0xD7 rfl rfl rfl fun _ => rfl
theorem Encoding.nopDB : Encoding.Statement .nopDB := encoding_unused 0xDB rfl rfl rfl fun _ => rfl
theorem Encoding.nopDC : Encoding.Statement .nopDC := encoding_unused 0xDC rfl rfl rfl fun _ => rfl
theorem Encoding.nopDF : Encoding.Statement .nopDF := encoding_unused 0xDF rfl rfl rfl fun _ => rfl
theorem Encoding.nopE2 : Encoding.Statement .nopE2 := encoding_unused 0xE2 rfl rfl rfl fun _ => rfl
theorem Encoding.nopE3 : Encoding.Statement .nopE3 := encoding_unused 0xE3 rfl rfl rfl fun _ => rfl
theorem Encoding.nopE7 : Encoding.Statement .nopE7 := encoding_unused 0xE7 rfl rfl rfl fun _ => rfl
theorem Encoding.nopEB : Encoding.Statement .nopEB := encoding_unused 0xEB rfl rfl rfl fun _ => rfl
theorem Encoding.nopEF : Encoding.Statement .nopEF := encoding_unused 0xEF rfl rfl rfl fun _ => rfl
theorem Encoding.nopF3 : Encoding.Statement .nopF3 := encoding_unused 0xF3 rfl rfl rfl fun _ => rfl
theorem Encoding.nopF4 : Encoding.Statement .nopF4 := encoding_unused 0xF4 rfl rfl rfl fun _ => rfl
theorem Encoding.nopF7 : Encoding.Statement .nopF7 := encoding_unused 0xF7 rfl rfl rfl fun _ => rfl
theorem Encoding.nopFB : Encoding.Statement .nopFB := encoding_unused 0xFB rfl rfl rfl fun _ => rfl
theorem Encoding.nopFC : Encoding.Statement .nopFC := encoding_unused 0xFC rfl rfl rfl fun _ => rfl
theorem Encoding.nopFF : Encoding.Statement .nopFF := encoding_unused 0xFF rfl rfl rfl fun _ => rfl

end Sys2Proof.Laws
end

