-- ==== Sys2Proof/Tests/Slice0.lean ====
section
/-! SUPPORT. Tests: the checks of WellFormed refuse ill-formed terms; every opcode of spec/opcode_table.json decodes to its
instruction; one step of each mnemonic on the worked example of its rule; a state that meets the hypotheses of each statement that
has some. Expected values are taken from the spec, never from the model. -/

namespace Sys2Proof.Tests

open Sys2Proof Sys2Proof.Machine Sys2Proof.Claims

/-! ### Well-formedness -/

theorem test_default_config_well_formed : defaultConfig.WellFormed := by decide

theorem test_empty_region_refused : ¬ ({ defaultConfig with memMap := [⟨0x9000, 0x8FFF, .rom⟩] } : Config).WellFormed := by
  decide

/-- $EA is assigned (`NOP`), so NOP_LEN does not speak of it (00_scope.md R8). -/
theorem test_assigned_opcode_in_nop_len_refused :
    ¬ ({ defaultConfig with nopLen := [⟨0xEA, .two⟩] } : Config).WellFormed := by decide

theorem test_duplicate_nop_len_refused :
    ¬ ({ defaultConfig with nopLen := [⟨0x02, .two⟩, ⟨0x02, .three⟩] } : Config).WellFormed := by decide

/-- No term of `Instr` is ill formed: operand values are never reserved (30_encoding.md R92). -/
theorem test_every_operand_value_well_formed : (Instr.bne 0xFE).WellFormed ∧ (Instr.ldaImm 0xFF).WellFormed := by decide

/-! ### Decoding: every row of the opcode map (30_encoding.md R85), operand bytes $21 and $43 -/

/-- Whether each word decodes to the instruction beside it. -/
def decodesAll (l : List (Nat × Nat × Instr)) : Bool := l.all fun q => decodeTableWord q.1 q.2.1 == some q.2.2

theorem test_decode_row_0 : decodesAll
      [(8, 0x00, .brk), (16, 0x2101, .oraIndX 0x21), (8, 0x02, .nop02), (8, 0x03, .nop03), (16, 0x2104, .tsbZp 0x21),
       (16, 0x2105, .oraZp 0x21), (16, 0x2106, .aslZp 0x21), (8, 0x07, .nop07), (8, 0x08, .php),
       (16, 0x2109, .oraImm 0x21), (8, 0x0A, .aslA), (8, 0x0B, .nop0B), (24, 0x43210C, .tsbAbs 0x4321),
       (24, 0x43210D, .oraAbs 0x4321), (24, 0x43210E, .aslAbs 0x4321), (8, 0x0F, .nop0F)] = true := by decide

theorem test_decode_row_1 : decodesAll
      [(16, 0x2110, .bpl 0x21), (16, 0x2111, .oraIndY 0x21), (16, 0x2112, .oraInd 0x21), (8, 0x13, .nop13),
       (16, 0x2114, .trbZp 0x21), (16, 0x2115, .oraZpX 0x21), (16, 0x2116, .aslZpX 0x21), (8, 0x17, .nop17),
       (8, 0x18, .clc), (24, 0x432119, .oraAbsY 0x4321), (8, 0x1A, .incA), (8, 0x1B, .nop1B),
       (24, 0x43211C, .trbAbs 0x4321), (24, 0x43211D, .oraAbsX 0x4321), (24, 0x43211E, .aslAbsX 0x4321),
       (8, 0x1F, .nop1F)] = true := by decide

theorem test_decode_row_2 : decodesAll
      [(24, 0x432120, .jsr 0x4321), (16, 0x2121, .andIndX 0x21), (8, 0x22, .nop22), (8, 0x23, .nop23),
       (16, 0x2124, .bitZp 0x21), (16, 0x2125, .andZp 0x21), (16, 0x2126, .rolZp 0x21), (8, 0x27, .nop27),
       (8, 0x28, .plp), (16, 0x2129, .andImm 0x21), (8, 0x2A, .rolA), (8, 0x2B, .nop2B),
       (24, 0x43212C, .bitAbs 0x4321), (24, 0x43212D, .andAbs 0x4321), (24, 0x43212E, .rolAbs 0x4321),
       (8, 0x2F, .nop2F)] = true := by decide

theorem test_decode_row_3 : decodesAll
      [(16, 0x2130, .bmi 0x21), (16, 0x2131, .andIndY 0x21), (16, 0x2132, .andInd 0x21), (8, 0x33, .nop33),
       (16, 0x2134, .bitZpX 0x21), (16, 0x2135, .andZpX 0x21), (16, 0x2136, .rolZpX 0x21), (8, 0x37, .nop37),
       (8, 0x38, .sec), (24, 0x432139, .andAbsY 0x4321), (8, 0x3A, .decA), (8, 0x3B, .nop3B),
       (24, 0x43213C, .bitAbsX 0x4321), (24, 0x43213D, .andAbsX 0x4321), (24, 0x43213E, .rolAbsX 0x4321),
       (8, 0x3F, .nop3F)] = true := by decide

theorem test_decode_row_4 : decodesAll
      [(8, 0x40, .rti), (16, 0x2141, .eorIndX 0x21), (8, 0x42, .nop42), (8, 0x43, .nop43), (8, 0x44, .nop44),
       (16, 0x2145, .eorZp 0x21), (16, 0x2146, .lsrZp 0x21), (8, 0x47, .nop47), (8, 0x48, .pha),
       (16, 0x2149, .eorImm 0x21), (8, 0x4A, .lsrA), (8, 0x4B, .nop4B), (24, 0x43214C, .jmpAbs 0x4321),
       (24, 0x43214D, .eorAbs 0x4321), (24, 0x43214E, .lsrAbs 0x4321), (8, 0x4F, .nop4F)] = true := by decide

theorem test_decode_row_5 : decodesAll
      [(16, 0x2150, .bvc 0x21), (16, 0x2151, .eorIndY 0x21), (16, 0x2152, .eorInd 0x21), (8, 0x53, .nop53),
       (8, 0x54, .nop54), (16, 0x2155, .eorZpX 0x21), (16, 0x2156, .lsrZpX 0x21), (8, 0x57, .nop57), (8, 0x58, .cli),
       (24, 0x432159, .eorAbsY 0x4321), (8, 0x5A, .phy), (8, 0x5B, .nop5B), (8, 0x5C, .nop5C),
       (24, 0x43215D, .eorAbsX 0x4321), (24, 0x43215E, .lsrAbsX 0x4321), (8, 0x5F, .nop5F)] = true := by decide

theorem test_decode_row_6 : decodesAll
      [(8, 0x60, .rts), (16, 0x2161, .adcIndX 0x21), (8, 0x62, .nop62), (8, 0x63, .nop63), (16, 0x2164, .stzZp 0x21),
       (16, 0x2165, .adcZp 0x21), (16, 0x2166, .rorZp 0x21), (8, 0x67, .nop67), (8, 0x68, .pla),
       (16, 0x2169, .adcImm 0x21), (8, 0x6A, .rorA), (8, 0x6B, .nop6B), (24, 0x43216C, .jmpInd 0x4321),
       (24, 0x43216D, .adcAbs 0x4321), (24, 0x43216E, .rorAbs 0x4321), (8, 0x6F, .nop6F)] = true := by decide

theorem test_decode_row_7 : decodesAll
      [(16, 0x2170, .bvs 0x21), (16, 0x2171, .adcIndY 0x21), (16, 0x2172, .adcInd 0x21), (8, 0x73, .nop73),
       (16, 0x2174, .stzZpX 0x21), (16, 0x2175, .adcZpX 0x21), (16, 0x2176, .rorZpX 0x21), (8, 0x77, .nop77),
       (8, 0x78, .sei), (24, 0x432179, .adcAbsY 0x4321), (8, 0x7A, .ply), (8, 0x7B, .nop7B),
       (24, 0x43217C, .jmpIndX 0x4321), (24, 0x43217D, .adcAbsX 0x4321), (24, 0x43217E, .rorAbsX 0x4321),
       (8, 0x7F, .nop7F)] = true := by decide

theorem test_decode_row_8 : decodesAll
      [(16, 0x2180, .bra 0x21), (16, 0x2181, .staIndX 0x21), (8, 0x82, .nop82), (8, 0x83, .nop83),
       (16, 0x2184, .styZp 0x21), (16, 0x2185, .staZp 0x21), (16, 0x2186, .stxZp 0x21), (8, 0x87, .nop87),
       (8, 0x88, .dey), (16, 0x2189, .bitImm 0x21), (8, 0x8A, .txa), (8, 0x8B, .nop8B),
       (24, 0x43218C, .styAbs 0x4321), (24, 0x43218D, .staAbs 0x4321), (24, 0x43218E, .stxAbs 0x4321),
       (8, 0x8F, .nop8F)] = true := by decide

theorem test_decode_row_9 : decodesAll
      [(16, 0x2190, .bcc 0x21), (16, 0x2191, .staIndY 0x21), (16, 0x2192, .staInd 0x21), (8, 0x93, .nop93),
       (16, 0x2194, .styZpX 0x21), (16, 0x2195, .staZpX 0x21), (16, 0x2196, .stxZpY 0x21), (8, 0x97, .nop97),
       (8, 0x98, .tya), (24, 0x432199, .staAbsY 0x4321), (8, 0x9A, .txs), (8, 0x9B, .nop9B),
       (24, 0x43219C, .stzAbs 0x4321), (24, 0x43219D, .staAbsX 0x4321), (24, 0x43219E, .stzAbsX 0x4321),
       (8, 0x9F, .nop9F)] = true := by decide

theorem test_decode_row_A : decodesAll
      [(16, 0x21A0, .ldyImm 0x21), (16, 0x21A1, .ldaIndX 0x21), (16, 0x21A2, .ldxImm 0x21), (8, 0xA3, .nopA3),
       (16, 0x21A4, .ldyZp 0x21), (16, 0x21A5, .ldaZp 0x21), (16, 0x21A6, .ldxZp 0x21), (8, 0xA7, .nopA7),
       (8, 0xA8, .tay), (16, 0x21A9, .ldaImm 0x21), (8, 0xAA, .tax), (8, 0xAB, .nopAB),
       (24, 0x4321AC, .ldyAbs 0x4321), (24, 0x4321AD, .ldaAbs 0x4321), (24, 0x4321AE, .ldxAbs 0x4321),
       (8, 0xAF, .nopAF)] = true := by decide

theorem test_decode_row_B : decodesAll
      [(16, 0x21B0, .bcs 0x21), (16, 0x21B1, .ldaIndY 0x21), (16, 0x21B2, .ldaInd 0x21), (8, 0xB3, .nopB3),
       (16, 0x21B4, .ldyZpX 0x21), (16, 0x21B5, .ldaZpX 0x21), (16, 0x21B6, .ldxZpY 0x21), (8, 0xB7, .nopB7),
       (8, 0xB8, .clv), (24, 0x4321B9, .ldaAbsY 0x4321), (8, 0xBA, .tsx), (8, 0xBB, .nopBB),
       (24, 0x4321BC, .ldyAbsX 0x4321), (24, 0x4321BD, .ldaAbsX 0x4321), (24, 0x4321BE, .ldxAbsY 0x4321),
       (8, 0xBF, .nopBF)] = true := by decide

theorem test_decode_row_C : decodesAll
      [(16, 0x21C0, .cpyImm 0x21), (16, 0x21C1, .cmpIndX 0x21), (8, 0xC2, .nopC2), (8, 0xC3, .nopC3),
       (16, 0x21C4, .cpyZp 0x21), (16, 0x21C5, .cmpZp 0x21), (16, 0x21C6, .decZp 0x21), (8, 0xC7, .nopC7),
       (8, 0xC8, .iny), (16, 0x21C9, .cmpImm 0x21), (8, 0xCA, .dex), (8, 0xCB, .nopCB),
       (24, 0x4321CC, .cpyAbs 0x4321), (24, 0x4321CD, .cmpAbs 0x4321), (24, 0x4321CE, .decAbs 0x4321),
       (8, 0xCF, .nopCF)] = true := by decide

theorem test_decode_row_D : decodesAll
      [(16, 0x21D0, .bne 0x21), (16, 0x21D1, .cmpIndY 0x21), (16, 0x21D2, .cmpInd 0x21), (8, 0xD3, .nopD3),
       (8, 0xD4, .nopD4), (16, 0x21D5, .cmpZpX 0x21), (16, 0x21D6, .decZpX 0x21), (8, 0xD7, .nopD7), (8, 0xD8, .cld),
       (24, 0x4321D9, .cmpAbsY 0x4321), (8, 0xDA, .phx), (8, 0xDB, .nopDB), (8, 0xDC, .nopDC),
       (24, 0x4321DD, .cmpAbsX 0x4321), (24, 0x4321DE, .decAbsX 0x4321), (8, 0xDF, .nopDF)] = true := by decide

theorem test_decode_row_E : decodesAll
      [(16, 0x21E0, .cpxImm 0x21), (16, 0x21E1, .sbcIndX 0x21), (8, 0xE2, .nopE2), (8, 0xE3, .nopE3),
       (16, 0x21E4, .cpxZp 0x21), (16, 0x21E5, .sbcZp 0x21), (16, 0x21E6, .incZp 0x21), (8, 0xE7, .nopE7),
       (8, 0xE8, .inx), (16, 0x21E9, .sbcImm 0x21), (8, 0xEA, .nop), (8, 0xEB, .nopEB),
       (24, 0x4321EC, .cpxAbs 0x4321), (24, 0x4321ED, .sbcAbs 0x4321), (24, 0x4321EE, .incAbs 0x4321),
       (8, 0xEF, .nopEF)] = true := by decide

theorem test_decode_row_F : decodesAll
      [(16, 0x21F0, .beq 0x21), (16, 0x21F1, .sbcIndY 0x21), (16, 0x21F2, .sbcInd 0x21), (8, 0xF3, .nopF3),
       (8, 0xF4, .nopF4), (16, 0x21F5, .sbcZpX 0x21), (16, 0x21F6, .incZpX 0x21), (8, 0xF7, .nopF7), (8, 0xF8, .sed),
       (24, 0x4321F9, .sbcAbsY 0x4321), (8, 0xFA, .plx), (8, 0xFB, .nopFB), (8, 0xFC, .nopFC),
       (24, 0x4321FD, .sbcAbsX 0x4321), (24, 0x4321FE, .incAbsX 0x4321), (8, 0xFF, .nopFF)] = true := by decide

/-- 178 opcode values are assigned, 78 are unused (30_encoding.md R85, R91). -/
theorem test_unused_count : ((List.range 256).filter fun n => isUnusedOpcode (BitVec.ofNat 8 n)).length = 78 := by decide

/-- The default of NOP_LEN on the unused opcodes (R91). -/
theorem test_default_nop_len : (unusedForms.all fun q => isUnusedOpcode q.1 && nopLength defaultNopLen q.1 == q.2.2) = true := by
  decide

/-- The bytes of an instruction (R80, R81). -/
theorem test_encode : encode defaultNopLen (.ldaAbs 0x1234) = [0xAD, 0x34, 0x12] ∧ encode defaultNopLen .nop5C = [0x5C, 0, 0] := by
  decide

theorem test_decode_short : decode defaultNopLen [0xAD, 0x34] = .error (.operandMissing 0xAD) := by rfl

/-! ### One step -/

/-- A small state: every flag clear, S = $FF, PC = $0200. -/
def base : State :=
  { State.reset with sp := 0xFF, pc := 0x0200, p := ⟨false, false, false, false, false, false, false⟩ }

/-- The state with bytes of memory written. -/
def withBytes (l : List Host.Cell) (s : State) : State := l.foldl (fun t c => { t with mem := t.mem.store c.1 c.2 }) s

/-- The state with the bytes of an instruction at PC. -/
def withCode (l : List Byte) (s : State) : State :=
  withBytes ((List.range l.length).map fun k => ((s.pc.toNat + k) % 65536, l.getD k 0)) s

/-- The state a step answers. -/
def next (s : State) : Option State :=
  match step s with
  | .next t => some t
  | .fault _ => none
  | .refused _ => none

/-- What `f` sees of the state after one step on the bytes at PC. -/
def see {α : Type} (code : List Byte) (s : State) (f : State → α) : Option α := (next (withCode code s)).map f

/-- The flags as N, V, D, I, Z, C. -/
def flags (s : State) : List Bool := [s.p.n, s.p.v, s.p.d, s.p.i, s.p.z, s.p.c]

/-- The byte at an address of RAM. -/
def at_ (a : Nat) (s : State) : Byte := s.mem.load a

/-- 41_load_store.md R130, example. -/
theorem test_lda :
    see [0xA9, 0x80] { base with a := 0x12 } (fun t => (t.a, flags t, t.pc)) =
      some (0x80, [true, false, false, false, false, false], 0x0202) := by decide

/-- R131, example. -/
theorem test_ldx_zero_page_y :
    see [0xB6, 0x10] (withBytes [(0x0012, 0x00)] { base with y := 0x02, x := 0x55 }) (fun t => (t.x, flags t, t.pc)) =
      some (0x00, [false, false, false, false, true, false], 0x0202) := by decide

/-- R132, example. -/
theorem test_ldy :
    see [0xA0, 0xFF] base (fun t => (t.y, flags t)) =
      some (0xFF, [true, false, false, false, false, false]) := by decide

/-- R133, example. -/
theorem test_sta_absolute_x :
    see [0x9D, 0xFF, 0x12] { base with a := 0x5A, x := 0x01 } (fun t => (at_ 0x1300 t, at_ 0x12FF t, flags t, t.pc)) =
      some (0x5A, 0x00, [false, false, false, false, false, false], 0x0203) := by decide

/-- R134, example. -/
theorem test_stx_zero_page_y :
    see [0x96, 0x20] { base with x := 0x07, y := 0xF0 } (fun t => (at_ 0x0010 t, at_ 0x0110 t)) =
      some (0x07, 0x00) := by decide

/-- R135, example: Z is unchanged. -/
theorem test_sty :
    see [0x8C, 0x00, 0x03] (withBytes [(0x0300, 0x77)] { base with y := 0x00 }) (fun t => (at_ 0x0300 t, t.p.z)) =
      some (0x00, false) := by decide

/-- R136, example. -/
theorem test_stz_zero_page_x :
    see [0x74, 0xFE] (withBytes [(0x0001, 0x99)] { base with x := 0x03 }) (fun t => (at_ 0x0001 t, t.p.z)) =
      some (0x00, false) := by decide

/-- 42_transfer.md R140, example. -/
theorem test_tax :
    see [0xAA] { base with x := 0x55 } (fun t => (t.x, flags t)) =
      some (0x00, [false, false, false, false, true, false]) := by decide

/-- R141, example. -/
theorem test_tay :
    see [0xA8] { base with a := 0xC3 } (fun t => (t.y, flags t)) =
      some (0xC3, [true, false, false, false, false, false]) := by decide

/-- R142, example. -/
theorem test_txa :
    see [0x8A] { base with x := 0x7F } (fun t => (t.a, flags t)) =
      some (0x7F, [false, false, false, false, false, false]) := by decide

/-- R143, example. -/
theorem test_tya :
    see [0x98] { base with y := 0x80 } (fun t => (t.a, flags t)) =
      some (0x80, [true, false, false, false, false, false]) := by decide

/-- R144, example. -/
theorem test_tsx :
    see [0xBA] { base with sp := 0xFD } (fun t => (t.x, flags t)) =
      some (0xFD, [true, false, false, false, false, false]) := by decide

/-- R145, example: no flag changes. -/
theorem test_txs :
    see [0x9A] { base with x := 0xFF, sp := 0x00, p := ⟨false, false, false, false, false, true, false⟩ } (fun t => (t.sp, flags t)) =
      some (0xFF, [false, false, false, false, true, false]) := by decide

/-- 43_stack.md R153, example. -/
theorem test_pha :
    see [0x48] { base with a := 0x42 } (fun t => (at_ 0x01FF t, t.sp)) =
      some (0x42, 0xFE) := by decide

/-- R154, example. -/
theorem test_php :
    see [0x08] { base with sp := 0x80, p := ⟨true, false, false, false, true, false, true⟩ } (fun t => (at_ 0x0180 t, t.sp)) =
      some (0xA5, 0x7F) := by decide

/-- R155, example. -/
theorem test_phx_wraps :
    see [0xDA] { base with x := 0x10, sp := 0x00 } (fun t => (at_ 0x0100 t, t.sp)) =
      some (0x10, 0xFF) := by decide

/-- R156, example. -/
theorem test_phy :
    see [0x5A] (withBytes [(0x01FE, 0x33)] { base with y := 0x00, sp := 0xFE }) (fun t => (at_ 0x01FE t, t.sp, t.p.z)) =
      some (0x00, 0xFD, false) := by decide

/-- R157, example. -/
theorem test_pla :
    see [0x68] (withBytes [(0x01FF, 0x00)] { base with a := 0x11, sp := 0xFE }) (fun t => (t.a, t.sp, flags t)) =
      some (0x00, 0xFF, [false, false, false, false, true, false]) := by decide

/-- R158, example. -/
theorem test_plp :
    see [0x28] (withBytes [(0x0180, 0xC3)] { base with sp := 0x7F }) (fun t => (t.sp, flags t, t.p.b)) =
      some (0x80, [true, true, false, false, true, true], false) := by decide

/-- R159, example. -/
theorem test_plx :
    see [0xFA] (withBytes [(0x01FE, 0x9C)] { base with sp := 0xFD }) (fun t => (t.x, t.sp, flags t)) =
      some (0x9C, 0xFE, [true, false, false, false, false, false]) := by decide

/-- R149, example. -/
theorem test_ply_wraps :
    see [0x7A] (withBytes [(0x0100, 0x01)] base) (fun t => (t.y, t.sp, flags t)) =
      some (0x01, 0x00, [false, false, false, false, false, false]) := by decide

/-- 44_inc_dec.md R160, example. -/
theorem test_inc :
    see [0xE6, 0x10] (withBytes [(0x0010, 0xFF)] base) (fun t => (at_ 0x0010 t, flags t)) =
      some (0x00, [false, false, false, false, true, false]) := by decide

/-- R160, corner case: $7F becomes $80, V unchanged. -/
theorem test_inc_a :
    see [0x1A] { base with a := 0x7F } (fun t => (t.a, flags t, t.pc)) =
      some (0x80, [true, false, false, false, false, false], 0x0201) := by decide

/-- R161, example. -/
theorem test_dec_a :
    see [0x3A] { base with a := 0x00 } (fun t => (t.a, flags t)) =
      some (0xFF, [true, false, false, false, false, false]) := by decide

/-- R161, corner case: $01 becomes $00. -/
theorem test_dec :
    see [0xC6, 0x10] (withBytes [(0x0010, 0x01)] { base with p := ⟨false, false, false, false, false, false, true⟩ }) (fun t => (at_ 0x0010 t, flags t)) =
      some (0x00, [false, false, false, false, true, true]) := by decide

/-- R162, example. -/
theorem test_inx :
    see [0xE8] { base with x := 0xFF } (fun t => (t.x, flags t)) =
      some (0x00, [false, false, false, false, true, false]) := by decide

/-- R163, example. -/
theorem test_iny :
    see [0xC8] { base with y := 0x7F } (fun t => (t.y, flags t)) =
      some (0x80, [true, false, false, false, false, false]) := by decide

/-- R164, example. -/
theorem test_dex :
    see [0xCA] { base with x := 0x01 } (fun t => (t.x, flags t)) =
      some (0x00, [false, false, false, false, true, false]) := by decide

/-- R165, example. -/
theorem test_dey :
    see [0x88] { base with y := 0x00 } (fun t => (t.y, flags t)) =
      some (0xFF, [true, false, false, false, false, false]) := by decide

/-- 45_shift_rotate.md R170, example. -/
theorem test_asl_a :
    see [0x0A] { base with a := 0x81 } (fun t => (t.a, flags t)) =
      some (0x02, [false, false, false, false, false, true]) := by decide

/-- R171, example. -/
theorem test_lsr :
    see [0x46, 0x20] (withBytes [(0x0020, 0x03)] base) (fun t => (at_ 0x0020 t, flags t)) =
      some (0x01, [false, false, false, false, false, true]) := by decide

/-- R172, example. -/
theorem test_rol_a :
    see [0x2A] { base with a := 0x40, p := ⟨false, false, false, false, false, false, true⟩ } (fun t => (t.a, flags t)) =
      some (0x81, [true, false, false, false, false, false]) := by decide

/-- R173, example. -/
theorem test_ror :
    see [0x6E, 0x34, 0x12] (withBytes [(0x1234, 0x01)] { base with p := ⟨false, false, false, false, false, false, true⟩ }) (fun t => (at_ 0x1234 t, flags t)) =
      some (0x80, [true, false, false, false, false, true]) := by decide

/-- 46_logical_compare.md R180, example. -/
theorem test_and :
    see [0x29, 0x3C] { base with a := 0xF0 } (fun t => (t.a, flags t)) =
      some (0x30, [false, false, false, false, false, false]) := by decide

/-- R181, example. -/
theorem test_ora :
    see [0x09, 0x80] { base with a := 0x0F } (fun t => (t.a, flags t)) =
      some (0x8F, [true, false, false, false, false, false]) := by decide

/-- R182, example. -/
theorem test_eor :
    see [0x49, 0xFF] { base with a := 0xAA } (fun t => (t.a, flags t)) =
      some (0x55, [false, false, false, false, false, false]) := by decide

/-- R183, example. -/
theorem test_bit :
    see [0x24, 0x40] (withBytes [(0x0040, 0xC0)] { base with a := 0x01 }) (fun t => (t.a, flags t)) =
      some (0x01, [true, true, false, false, true, false]) := by decide

/-- R183, example: N and V unchanged. -/
theorem test_bit_immediate :
    see [0x89, 0xC0] { base with a := 0x01 } (fun t => (t.a, flags t)) =
      some (0x01, [false, false, false, false, true, false]) := by decide

/-- R184, example. -/
theorem test_cmp :
    see [0xC9, 0x41] { base with a := 0x40 } (fun t => (t.a, flags t)) =
      some (0x40, [true, false, false, false, false, false]) := by decide

/-- R185, example. -/
theorem test_cpx :
    see [0xE0, 0x10] { base with x := 0x10 } (fun t => flags t) =
      some [false, false, false, false, true, true] := by decide

/-- R186, example. -/
theorem test_cpy :
    see [0xCC, 0x00, 0x03] (withBytes [(0x0300, 0x7F)] { base with y := 0xFF }) (fun t => flags t) =
      some [true, false, false, false, false, true] := by decide

/-- R187, example. -/
theorem test_trb :
    see [0x14, 0x50] (withBytes [(0x0050, 0x3C)] { base with a := 0x0F, p := ⟨false, false, false, false, false, true, false⟩ }) (fun t => (at_ 0x0050 t, t.a, flags t)) =
      some (0x30, 0x0F, [false, false, false, false, false, false]) := by decide

/-- R188, example. -/
theorem test_tsb :
    see [0x0C, 0x00, 0x10] (withBytes [(0x1000, 0x01)] { base with a := 0x81, p := ⟨false, false, false, false, false, true, false⟩ }) (fun t => (at_ 0x1000 t, flags t)) =
      some (0x81, [false, false, false, false, false, false]) := by decide

/-- 47_arithmetic.md R190, example. -/
theorem test_adc :
    see [0x69, 0x50] { base with a := 0x50 } (fun t => (t.a, flags t)) =
      some (0xA0, [true, true, false, false, false, false]) := by decide

/-- R192, corner case: $58 + $46 + 1 = $05, C = 1 (V is not looked at). -/
theorem test_adc_decimal :
    see [0x69, 0x46] { base with a := 0x58, p := ⟨false, false, false, true, false, false, true⟩ } (fun t => (t.a, t.p.n, t.p.z, t.p.c)) =
      some (0x05, false, false, true) := by decide

/-- R194, example. -/
theorem test_sbc :
    see [0xE9, 0xF0] { base with a := 0x50, p := ⟨false, false, false, false, false, false, true⟩ } (fun t => (t.a, flags t)) =
      some (0x60, [false, false, false, false, false, false]) := by decide

/-- R196, corner case: $00 - $01 with C = 1 gives $99, C = 0, N = 1 (V is not looked at). -/
theorem test_sbc_decimal :
    see [0xE9, 0x01] { base with a := 0x00, p := ⟨false, false, false, true, false, false, true⟩ } (fun t => (t.a, t.p.n, t.p.z, t.p.c)) =
      some (0x99, true, false, false) := by decide

/-- 48_control_flow.md R200, example. -/
theorem test_jmp :
    see [0x4C, 0x00, 0xC0] base (fun t => t.pc) =
      some 0xC000 := by decide

/-- R201, example. -/
theorem test_jmp_indirect_page_end :
    see [0x6C, 0xFF, 0x12] (withBytes [(0x12FF, 0x34), (0x1300, 0x56)] base) (fun t => t.pc) =
      some 0x5634 := by decide

/-- R202, example. -/
theorem test_jmp_indexed_indirect :
    see [0x7C, 0x00, 0x30] (withBytes [(0x3002, 0x00), (0x3003, 0x80)] { base with x := 0x02 }) (fun t => t.pc) =
      some 0x8000 := by decide

/-- R203, example. -/
theorem test_jsr :
    see [0x20, 0x00, 0x30] base (fun t => (at_ 0x01FF t, at_ 0x01FE t, t.sp, t.pc)) =
      some (0x02, 0x02, 0xFD, 0x3000) := by decide

/-- R204, example. -/
theorem test_rts :
    see [0x60] (withBytes [(0x01FE, 0x02), (0x01FF, 0x02)] { base with sp := 0xFD }) (fun t => (t.sp, t.pc)) =
      some (0xFF, 0x0203) := by decide

/-- R205, example. -/
theorem test_rti :
    see [0x40] (withBytes [(0x01FD, 0x21), (0x01FE, 0x34), (0x01FF, 0x12)] { base with sp := 0xFC }) (fun t => (t.sp, t.pc, flags t, t.p.b)) =
      some (0xFF, 0x1234, [false, false, false, false, false, true], false) := by decide

/-- R207, example. -/
theorem test_bcc :
    see [0x90, 0x05] { base with pc := 0x0300 } (fun t => t.pc) =
      some 0x0307 := by decide

/-- R208, example. -/
theorem test_bcs :
    see [0xB0, 0xFC] { base with pc := 0x0300, p := ⟨false, false, false, false, false, false, true⟩ } (fun t => t.pc) =
      some 0x02FE := by decide

/-- R209, example. -/
theorem test_beq :
    see [0xF0, 0x10] { base with pc := 0x1000, p := ⟨false, false, false, false, false, true, false⟩ } (fun t => t.pc) =
      some 0x1012 := by decide

/-- R210, example. -/
theorem test_bne :
    see [0xD0, 0xFD] { base with pc := 0x0203 } (fun t => t.pc) =
      some 0x0202 := by decide

/-- R211, example. -/
theorem test_bmi :
    see [0x30, 0x7F] { base with pc := 0x0400, p := ⟨true, false, false, false, false, false, false⟩ } (fun t => t.pc) =
      some 0x0481 := by decide

/-- R212, example. -/
theorem test_bpl :
    see [0x10, 0x80] { base with pc := 0x0400 } (fun t => t.pc) =
      some 0x0382 := by decide

/-- R213, example. -/
theorem test_bvc :
    see [0x50, 0x02] { base with pc := 0x0500 } (fun t => t.pc) =
      some 0x0504 := by decide

/-- R214, example. -/
theorem test_bvs_not_taken :
    see [0x70, 0x02] { base with pc := 0x0500 } (fun t => t.pc) =
      some 0x0502 := by decide

/-- R215, example. -/
theorem test_bra :
    see [0x80, 0xFE] { base with pc := 0x0600 } (fun t => t.pc) =
      some 0x0600 := by decide

/-- 49_status_system.md R220, example. -/
theorem test_clc :
    see [0x18] { base with p := ⟨false, false, false, false, false, false, true⟩ } (fun t => (flags t, t.pc)) =
      some ([false, false, false, false, false, false], 0x0201) := by decide

/-- R221, example. -/
theorem test_cld :
    see [0xD8] { base with p := ⟨false, false, false, true, false, false, false⟩ } (fun t => (flags t, t.pc)) =
      some ([false, false, false, false, false, false], 0x0201) := by decide

/-- R222, example. -/
theorem test_cli :
    see [0x58] { base with p := ⟨false, false, false, false, true, false, false⟩ } (fun t => (flags t, t.pc)) =
      some ([false, false, false, false, false, false], 0x0201) := by decide

/-- R223, example. -/
theorem test_clv :
    see [0xB8] { base with p := ⟨false, true, false, false, false, false, false⟩ } (fun t => (flags t, t.pc)) =
      some ([false, false, false, false, false, false], 0x0201) := by decide

/-- R224, example. -/
theorem test_sec :
    see [0x38] base (fun t => (flags t, t.pc)) =
      some ([false, false, false, false, false, true], 0x0201) := by decide

/-- R225, example. -/
theorem test_sed :
    see [0xF8] base (fun t => (flags t, t.pc)) =
      some ([false, false, true, false, false, false], 0x0201) := by decide

/-- R226, example. -/
theorem test_sei :
    see [0x78] base (fun t => (flags t, t.pc)) =
      some ([false, false, false, true, false, false], 0x0201) := by decide

/-- R227, example. -/
theorem test_nop :
    see [0xEA] { base with pc := 0x0300 } (fun t => (t.pc, flags t)) =
      some (0x0301, [false, false, false, false, false, false]) := by decide

/-- R228, example. -/
theorem test_brk :
    see [0x00] (withBytes [(0xFFFE, 0x00), (0xFFFF, 0x90)] { base with pc := 0x0300, p := ⟨false, false, false, true, false, true, true⟩ }) (fun t => ([at_ 0x01FF t, at_ 0x01FE t, at_ 0x01FD t, t.sp], t.pc, flags t)) =
      some ([0x03, 0x02, 0x3B, 0xFC], 0x9000, [false, false, false, true, true, true]) := by decide

/-- R231, example. -/
theorem test_unused_two_bytes :
    see [0x02, 0xFF] { base with pc := 0x0400 } (fun t => (t.pc, flags t)) =
      some (0x0402, [false, false, false, false, false, false]) := by decide

/-- 30_encoding.md R91: $5C is three bytes long. -/
theorem test_unused_three_bytes :
    see [0x5C, 0x12, 0x34] base (fun t => t.pc) =
      some 0x0203 := by decide

/-- 40_address_modes.md R111, example: low byte from $00FF, high byte from $0000. -/
theorem test_pointer_wraps_in_page_zero :
    see [0xA1, 0xFE] (withBytes [(0x00FF, 0x34), (0x0000, 0x12), (0x0100, 0x77), (0x1234, 0x5A)] { base with x := 0x01 }) (fun t => t.a) =
      some 0x5A := by decide

/-- 40_address_modes.md R106, example. -/
theorem test_zero_page_x_wraps :
    see [0xB5, 0xF0] (withBytes [(0x0010, 0x5A), (0x0110, 0x77)] { base with x := 0x20 }) (fun t => t.a) =
      some 0x5A := by decide

/-- 60_exceptions.md example E1. -/
theorem test_irq :
    see [0xEA] (withBytes [(0xFFFE, 0x00), (0xFFFF, 0xC0)] { base with pc := 0x1234, irqLine := true, p := ⟨true, false, false, true, false, false, true⟩ }) (fun t => ([at_ 0x01FF t, at_ 0x01FE t, at_ 0x01FD t, t.sp], t.pc, flags t)) =
      some ([0x12, 0x34, 0xA9, 0xFC], 0xC000, [true, false, false, true, false, true]) := by decide

/-- 60_exceptions.md example E3. -/
theorem test_nmi_frame_wraps :
    see [0xEA] (withBytes [(0xFFFA, 0x34), (0xFFFB, 0x12)] { base with pc := 0x8000, sp := 0x01, inputs := [[.nmi]] }) (fun t => ([at_ 0x0101 t, at_ 0x0100 t, at_ 0x01FF t, t.sp], t.pc, t.p.i, t.nmiPending)) =
      some ([0x80, 0x00, 0x20, 0xFE], 0x1234, true, false) := by decide

/-- 60_exceptions.md example E4. -/
theorem test_reset :
    see [0xEA] (withBytes [(0xFFFC, 0x00), (0xFFFD, 0x80)] { base with resetReq := true, nmiPending := true, p := ⟨false, false, false, true, false, false, false⟩ }) (fun t => (t.pc, t.p.d, t.p.i, t.nmiPending, t.resetReq)) =
      some (0x8000, false, true, false, false) := by decide

/-- 60_exceptions.md R248: with I = 1 the IRQ is not taken. -/
theorem test_irq_masked :
    see [0xEA] { base with irqLine := true, p := ⟨false, false, false, false, true, false, false⟩ } (fun t => t.pc) =
      some 0x0201 := by decide

/-- 10_state.md R38: SO_CONNECTED is false by default. -/
theorem test_set_overflow_unconnected :
    see [0xEA] { base with inputs := [[.setOverflow]] } (fun t => t.p.v) =
      some false := by decide

/-- 10_state.md R38. -/
theorem test_set_overflow_connected :
    see [0xEA] { base with inputs := [[.setOverflow]], cfg := { defaultConfig with soConnected := true } } (fun t => t.p.v) =
      some true := by decide

/-- 20_memory.md R62. -/
theorem test_rom_ignores_writes :
    see [0x85, 0x10] { base with a := 0x77, cfg := { defaultConfig with memMap := [⟨0x0000, 0x00FF, .rom⟩] } } (fun t => (at_ 0x0010 t, t.pc)) =
      some (0x00, 0x0202) := by decide

/-- 20_memory.md R62; log 9. -/
theorem test_device_is_handed_the_byte :
    see [0x8D, 0x00, 0xD0] { base with a := 0x77, cfg := { defaultConfig with memMap := [⟨0xD000, 0xDFFF, .io⟩] } } (fun t => (t.devOut, t.mem.load 0xD000)) =
      some ([(0xD000, 0x77)], 0x00) := by decide

/-- `withFetchWord` puts an instruction where the next step fetches it. -/
theorem test_with_fetch_word :
    (next (State.reset.withFetchWord 16 0x80A9)).map (fun t => (t.a, t.pc)) = some (0x80, 0x0002) := by decide

/-- 70_reset_and_hazards.md R292: `LDA $12F0,X` with X = $20 crosses a page, with X = $01 it does not. -/
theorem test_cycles :
    (cycles (.ldaAbsX 0x12F0) { base with x := 0x20 }, cycles (.ldaAbsX 0x12F0) { base with x := 0x01 }) = (some 5, some 4) := by
  decide

/-! ### States that meet the hypotheses of the statements -/

/-- Every byte of page one is RAM under the default parameters. -/
theorem witness_stack_is_ram : StackIsRam base := fun _ => rfl

theorem witness_encode_after_decode :
    decode defaultNopLen [0xA9, 0x80, 0xEA] = .ok (.ldaImm 0x80, [0xEA]) ∧ isUnusedOpcode (opcodeOf (.ldaImm 0x80)) = false := by
  exact ⟨rfl, rfl⟩

/-- Hypotheses of StepRunsTheDecodedInstruction: the bytes of `LDA #$80` at $FFFF and $0000, the IRQ line high and masked. -/
theorem witness_step_runs :
    let s := withCode [0xA9, 0x80] { base with pc := 0xFFFF, irqLine := true, p := { base.p with i := true } }
    (beginStep s).resetReq = false ∧ (beginStep s).nmiPending = false ∧ (beginStep s).irqLine = true ∧
    (beginStep s).p.i = true ∧
    decode (beginStep s).cfg.nopLen
      [memRead .opcode (beginStep s).pc (beginStep s), memRead .op1 (addrMod ((beginStep s).pc.toNat + 1)) (beginStep s),
       memRead .op2 (addrMod ((beginStep s).pc.toNat + 2)) (beginStep s)] = .ok (.ldaImm 0x80, [0x00]) ∧
    (Instr.ldaImm 0x80).WellFormed := by
  exact ⟨rfl, rfl, rfl, rfl, rfl, trivial⟩

/-- The same with the IRQ line low. -/
theorem witness_step_runs_line_low :
    let s := withCode [0xEA] base
    (beginStep s).resetReq = false ∧ (beginStep s).nmiPending = false ∧ (beginStep s).irqLine = false ∧
    decode (beginStep s).cfg.nopLen
      [memRead .opcode (beginStep s).pc (beginStep s), memRead .op1 (addrMod ((beginStep s).pc.toNat + 1)) (beginStep s),
       memRead .op2 (addrMod ((beginStep s).pc.toNat + 2)) (beginStep s)] = .ok (.nop, [0x00, 0x00]) := by
  exact ⟨rfl, rfl, rfl, rfl⟩

theorem witness_inputs_none : base.inputs = [] := rfl

theorem witness_inputs_some :
    ({ base with inputs := [[.nmi, .irq true, .setOverflow, .reset false]] } : State).inputs =
      [.nmi, .irq true, .setOverflow, .reset false] :: [] := rfl

theorem witness_reset : (beginStep { base with inputs := [[.reset true, .nmi]] }).resetReq = true ∧
    (beginStep { base with inputs := [[.reset true, .nmi]] }).cfg.resetI = .fixed true := by decide

theorem witness_nmi : (beginStep { base with sp := 0x01, inputs := [[.nmi]] }).resetReq = false ∧
    (beginStep { base with sp := 0x01, inputs := [[.nmi]] }).nmiPending = true := by decide

theorem witness_irq : (beginStep { base with sp := 0x00, irqLine := true }).resetReq = false ∧
    (beginStep { base with sp := 0x00, irqLine := true }).nmiPending = false ∧
    (beginStep { base with sp := 0x00, irqLine := true }).irqLine = true ∧
    (beginStep { base with sp := 0x00, irqLine := true }).p.i = false := by decide

/-- `STA $0300` at $0200, a state with bytes at both ends of memory. -/
theorem witness_invariant :
    let s := withBytes [(0xFFFF, 0x80), (0x0000, 0x12)] (withCode [0x8D, 0x00, 0x03] { base with a := 0x42 })
    Sys2Proof.Safety.Inv s ∧ ∃ t, step s = .next t ∧ at_ 0x0300 t = 0x42 := by
  refine ⟨?_, _, rfl, ?_⟩
  · unfold Sys2Proof.Safety.Inv; decide
  · decide

theorem witness_interrupt_then_rti : StackIsRam (beginStep { base with irqLine := true, nmiPending := true }) ∧
    (beginStep { base with irqLine := true, nmiPending := true }).resetReq = false ∧
    (beginStep { base with irqLine := true, nmiPending := true }).nmiPending = true ∧
    (beginStep { base with irqLine := true, nmiPending := true }).irqLine = true ∧
    (beginStep { base with irqLine := true, nmiPending := true }).p.i = false := ⟨fun _ => rfl, rfl, rfl, rfl, rfl⟩

/-- The four kinds of an address, at the ends of a region; the first region wins. -/
theorem witness_memory_map :
    let cfg := { defaultConfig with memMap := [⟨0x1000, 0x1FFF, .rom⟩, ⟨0x1FFF, 0x2000, .io⟩, ⟨0x3000, 0x3000, .unmapped⟩] }
    kindOf cfg 0x0FFF = .ram ∧ kindOf cfg 0x1000 = .rom ∧ kindOf cfg 0x1FFF = .rom ∧ kindOf cfg 0x2000 = .io ∧
    kindOf cfg 0x3000 = .unmapped ∧ kindOf cfg 0x3001 = .ram := by decide

/-- `ADC #` and `SBC #` in binary mode. -/
theorem witness_binary : base.p.d = false ∧ (⟨0x69, .adcImm 0x50, .imm 0x50, 2⟩ : Form) ∈ adcForms 0x50 0x1234 ∧
    (⟨0xE9, .sbcImm 0x50, .imm 0x50, 2⟩ : Form) ∈ sbcForms 0x50 0x1234 := by decide

/-- `ADC #$99` and `SBC #$99` on A = $99 in decimal mode: valid BCD at the top of its range. -/
theorem witness_decimal :
    ({ base with a := 0x99, p := { base.p with d := true } } : State).p.d = true ∧ IsBcd 0x99 ∧ IsBcd 0x00 ∧
    operandByte (.imm 0x99) base = 0x99 ∧ (⟨0x69, .adcImm 0x99, .imm 0x99, 2⟩ : Form) ∈ adcForms 0x99 0x1234 ∧
    (⟨0xE9, .sbcImm 0x99, .imm 0x99, 2⟩ : Form) ∈ sbcForms 0x99 0x1234 := by
  refine ⟨rfl, ⟨by decide, by decide⟩, ⟨by decide, by decide⟩, rfl, by decide, by decide⟩

/-- An operand $9A is not valid BCD. -/
theorem witness_decimal_invalid :
    ({ base with a := 0x99, p := { base.p with d := true } } : State).p.d = true ∧ ¬ (IsBcd 0x99 ∧ IsBcd 0x9A) ∧
    (⟨0x69, .adcImm 0x9A, .imm 0x9A, 2⟩ : Form) ∈ adcForms 0x9A 0x1234 ++ sbcForms 0x9A 0x1234 :=
  ⟨rfl, fun h => absurd h.2.2 (by decide), by decide⟩

/-- The two models of B, which the statements on `PHP`, `PLP`, `RTI` and `BRK` tell apart. -/
theorem witness_b_models : base.cfg.bModel = .stored ∧
    ({ base with cfg := { defaultConfig with bModel := .phantom } } : State).cfg.bModel = .phantom := by decide

/-- An instruction outside and one inside each list of writers. -/
theorem witness_writers :
    (Instr.nop.mnemonic ∉ [Mnemonic.adc, .and, .eor, .lda, .ora, .pla, .sbc, .txa, .tya] ∧ Instr.nop ∉ accumulatorForms) ∧
    Instr.nop.mnemonic ∉ writersOfN ∧ Instr.nop.mnemonic ∉ memoryWriters ∧ Instr.aslA ∈ accumulatorForms ∧
    Instr.nop.mnemonic ∉ controlTransfers ∧ (Instr.bitImm 0x80).mnemonic ∈ writersOfN := by decide

/-- Instructions on both sides of DecimalFlagReadOnlyByAdcAndSbc. -/
theorem witness_decimal_flag :
    (Instr.cmpImm 0x10).mnemonic ∉ [Mnemonic.adc, .sbc, .php, .brk, .cld, .sed, .plp, .rti] ∧
    Instr.plp.mnemonic ∈ [Mnemonic.cld, .sed, .plp, .rti] := by decide

end Sys2Proof.Tests
end

section
/-! SUPPORT. Load and store (41_load_store.md): what each row runs, and the words of `Sys2Proof.Claims` beside the model's own. -/

namespace Sys2Proof.Proofs

open Sys2Proof.Machine Sys2Proof.Claims

/-! ### The words of the statements and those of the model -/

/-- `SetNZ(v)` (00_scope.md R12), by bits and by numbers. -/
theorem setNZ_eq_withNZ (v : Byte) (f : Flags) : setNZ v f = withNZ v f := by
  have hn : v[7] = decide (128 ≤ v.toNat) := BitVec.msb_eq_decide v
  have hz : (v == 0) = decide (v.toNat = 0) := decide_eq_decide.2 BitVec.toNat_eq
  simp only [setNZ, withNZ, hn, hz]

/-- PC advanced by a length (10_state.md R26), by words and by numbers. -/
theorem pc_add_eq_pcAfter (s : State) (len : Nat) : s.pc + BitVec.ofNat 16 len = pcAfter s len := by
  apply BitVec.eq_of_toNat_eq
  simp [pcAfter, addrMod]

/-- MemWrite (R12; 20_memory.md R51, R62) writes the byte at its address and nothing else. -/
theorem memWrite_wrote (ea : Addr) (v : Byte) (s : State) : Wrote ea v s (memWrite ea v s) := by
  refine ⟨?frame, fun use a ha => memRead_memWrite_other use v s ha, ?ram, ?io, memWrite_ignored v⟩
  case frame => obtain ⟨-, e⟩ | ⟨-, e⟩ | ⟨-, e⟩ := memWrite_cases ea v s <;> simp only [e, setMem]
  case ram =>
    intro hram
    exact ⟨by rw [memWrite_ram v hram, setMem_devOut], fun use => memRead_memWrite_same use v hram⟩
  case io =>
    intro hio
    rw [memWrite_io v hio]
    exact ⟨rfl, rfl⟩

/-! ### What a row of a table runs -/

/-- The instruction of a row has the row's opcode and length, and `exec` runs `run` on the row's operand. -/
structure RunsOnOperand (run : Operand → State → State) (q : Form) : Prop where
  opcode : opcodeOf q.instr = q.opcode
  len : operandLength q.operand = q.len
  exec (s : State) : exec q.instr s = .next (run q.operand s)

/-- The same of a row with a byte of memory: `exec` runs `run` on the row's address mode. -/
structure RunsOnMemory (run : MemMode → State → State) (q : MemForm) : Prop where
  opcode : opcodeOf q.instr = q.opcode
  len : modeLength q.mode = q.len
  exec (s : State) : exec q.instr s = .next (run q.mode s)

/-! ### Loads (41_load_store.md R130 to R132) -/

theorem ldaForms_run (b : Byte) (w : Addr) : ∀ q ∈ ldaForms b w, RunsOnOperand loadA q := by
  simp only [ldaForms, List.forall_mem_cons]
  refine ⟨?indX, ?zp, ?imm, ?abs, ?indY, ?ind, ?zpX, ?absY, ?absX, List.forall_mem_nil _⟩ <;>
    exact ⟨rfl, rfl, fun _ => rfl⟩

theorem ldxForms_run (b : Byte) (w : Addr) : ∀ q ∈ ldxForms b w, RunsOnOperand loadX q := by
  simp only [ldxForms, List.forall_mem_cons]
  refine ⟨?imm, ?zp, ?abs, ?zpY, ?absY, List.forall_mem_nil _⟩ <;> exact ⟨rfl, rfl, fun _ => rfl⟩

theorem ldyForms_run (b : Byte) (w : Addr) : ∀ q ∈ ldyForms b w, RunsOnOperand loadY q := by
  simp only [ldyForms, List.forall_mem_cons]
  refine ⟨?imm, ?zp, ?abs, ?zpX, ?absX, List.forall_mem_nil _⟩ <;> exact ⟨rfl, rfl, fun _ => rfl⟩

/-- Settles O19: each row runs `loadA`, whose next state `loadA_eq` gives. -/
theorem ldaLoadsAccumulator : Obligations.LdaLoadsAccumulator := by
  intro b w s q hq
  have row := ldaForms_run b w q hq
  exact ⟨row.opcode, by rw [row.exec, loadA_eq, row.len, setNZ_eq_withNZ, pc_add_eq_pcAfter]⟩

/-- Settles O20: each row runs `loadX` or `loadY`, whose next states `loadX_eq` and `loadY_eq` give. -/
theorem ldxLdyLoadIndex : Obligations.LdxLdyLoadIndex := by
  intro b w s
  constructor
  · intro q hq
    have row := ldxForms_run b w q hq
    exact ⟨row.opcode, by rw [row.exec, loadX_eq, row.len, setNZ_eq_withNZ, pc_add_eq_pcAfter]⟩
  · intro q hq
    have row := ldyForms_run b w q hq
    exact ⟨row.opcode, by rw [row.exec, loadY_eq, row.len, setNZ_eq_withNZ, pc_add_eq_pcAfter]⟩

/-! ### Stores (41_load_store.md R133 to R136) -/

/-- Rows that run `storeByte` on the byte `v` of the state obey the law of a store. -/
theorem stores_of_run_storeByte {forms : List MemForm} {v : State → Byte}
    (h : ∀ q ∈ forms, RunsOnMemory (fun m s => storeByte (v s) m s) q) : Stores forms v := by
  intro s q hq
  have row := h q hq
  refine ⟨row.opcode, memWrite (effAddr q.mode s) (v s) s, memWrite_wrote _ _ _, ?_⟩
  rw [row.exec, storeByte_eq, row.len, pc_add_eq_pcAfter]

theorem staForms_run (b : Byte) (w : Addr) :
    ∀ q ∈ staForms b w, RunsOnMemory (fun m s => storeByte s.a m s) q := by
  simp only [staForms, List.forall_mem_cons]
  refine ⟨?indX, ?zp, ?abs, ?indY, ?ind, ?zpX, ?absY, ?absX, List.forall_mem_nil _⟩ <;>
    exact ⟨rfl, rfl, fun _ => rfl⟩

theorem stxForms_run (b : Byte) (w : Addr) :
    ∀ q ∈ stxForms b w, RunsOnMemory (fun m s => storeByte s.x m s) q := by
  simp only [stxForms, List.forall_mem_cons]
  refine ⟨?zp, ?abs, ?zpY, List.forall_mem_nil _⟩ <;> exact ⟨rfl, rfl, fun _ => rfl⟩

theorem styForms_run (b : Byte) (w : Addr) :
    ∀ q ∈ styForms b w, RunsOnMemory (fun m s => storeByte s.y m s) q := by
  simp only [styForms, List.forall_mem_cons]
  refine ⟨?zp, ?abs, ?zpX, List.forall_mem_nil _⟩ <;> exact ⟨rfl, rfl, fun _ => rfl⟩

theorem stzForms_run (b : Byte) (w : Addr) :
    ∀ q ∈ stzForms b w, RunsOnMemory (fun m s => storeByte 0 m s) q := by
  simp only [stzForms, List.forall_mem_cons]
  refine ⟨?zp, ?zpX, ?abs, ?absX, List.forall_mem_nil _⟩ <;> exact ⟨rfl, rfl, fun _ => rfl⟩

/-- Settles O21: each row runs `storeByte` on A. -/
theorem staStoresAccumulator : Obligations.StaStoresAccumulator :=
  fun b w => stores_of_run_storeByte (staForms_run b w)

/-- Settles O22: each row runs `storeByte` on X, on Y or on zero. -/
theorem stxStyStzStore : Obligations.StxStyStzStore := fun b w =>
  ⟨stores_of_run_storeByte (stxForms_run b w), stores_of_run_storeByte (styForms_run b w),
    stores_of_run_storeByte (stzForms_run b w)⟩

end Sys2Proof.Proofs
end

section
/-! SUPPORT. Transfers (42_transfer.md): the arm of `exec` of each of the six, and the two ways in which they finish. -/

namespace Sys2Proof.Proofs

open Sys2Proof.Machine Sys2Proof.Claims

/-! ### How an instruction finishes -/

/-- The PC alone moves (10_state.md R26). -/
theorem advance_eq_pcAfter (len : Nat) (s : State) : advance len s = { s with pc := pcAfter s len } := by
  rw [← pc_add_eq_pcAfter]; rfl

/-- N, Z and the PC alone move (00_scope.md R12; 10_state.md R26). -/
theorem advance_setStateNZ_eq (len : Nat) (v : Byte) (s : State) :
    advance len (setStateNZ v s) = { s with p := withNZ v s.p, pc := pcAfter s len } := by
  rw [advance_eq_pcAfter, ← setNZ_eq_withNZ]; rfl

/-! ### What each transfer runs (42_transfer.md R140 to R145) -/

theorem exec_tax (s : State) : exec .tax s = .next (advance 1 (setStateNZ s.a (setX s.a s))) := rfl

theorem exec_tay (s : State) : exec .tay s = .next (advance 1 (setStateNZ s.a (setY s.a s))) := rfl

theorem exec_txa (s : State) : exec .txa s = .next (advance 1 (setStateNZ s.x (setA s.x s))) := rfl

theorem exec_tya (s : State) : exec .tya s = .next (advance 1 (setStateNZ s.y (setA s.y s))) := rfl

theorem exec_tsx (s : State) : exec .tsx s = .next (advance 1 (setStateNZ s.sp (setX s.sp s))) := rfl

theorem exec_txs (s : State) : exec .txs s = .next (advance 1 (setSp s.x s)) := rfl

/-- Settles O23: each transfer sets one register and then finishes, `TXS` as `advance_eq_pcAfter` says (R145), the others
as `advance_setStateNZ_eq` does; the flags and the PC they finish with do not depend on the register set. -/
theorem transfersMoveOneRegister : Obligations.TransfersMoveOneRegister := by
  intro s
  refine ⟨⟨rfl, ?tax⟩, ⟨rfl, ?tay⟩, ⟨rfl, ?txa⟩, ⟨rfl, ?tya⟩, ⟨rfl, ?tsx⟩, ⟨rfl, ?txs⟩⟩
  case tax => rw [exec_tax, advance_setStateNZ_eq]; rfl
  case tay => rw [exec_tay, advance_setStateNZ_eq]; rfl
  case txa => rw [exec_txa, advance_setStateNZ_eq]; rfl
  case tya => rw [exec_tya, advance_setStateNZ_eq]; rfl
  case tsx => rw [exec_tsx, advance_setStateNZ_eq]; rfl
  case txs => rw [exec_txs, advance_eq_pcAfter]; rfl

end Sys2Proof.Proofs
end

section
/-! SUPPORT. Pushes and pulls (43_stack.md): the stack's address and the status byte in the words of `Sys2Proof.Claims`, what a
push and a pull leave, and the arm of `exec` of each of the eight instructions. -/

namespace Sys2Proof.Proofs

open Sys2Proof.Machine Sys2Proof.Claims

/-! ### The stack pointer and the byte it names (10_state.md R24) -/

/-- Two bytes as one address (20_memory.md R52), by words and by numbers. -/
theorem word_eq_wordOf (lo hi : Byte) : word lo hi = wordOf lo hi := by
  apply BitVec.eq_of_toNat_eq
  have hlo := lo.isLt
  have hhi := hi.isLt
  rw [word, BitVec.toNat_append, ← Nat.shiftLeft_add_eq_or_of_lt hlo, Nat.shiftLeft_eq]
  simp only [wordOf, addrMod, BitVec.toNat_ofNat]
  omega

theorem stackAddr_eq_stackByte (sp : Byte) : stackAddr sp = stackByte sp := by
  rw [stackAddr, word_eq_wordOf, wordOf, stackByte, Nat.add_comm]; rfl

theorem sub_one_eq_down (sp : Byte) : sp - 1 = down sp 1 := by
  simp only [down, byteMod]; bv_omega

theorem add_one_eq_up (sp : Byte) : sp + 1 = up sp 1 := by
  simp only [up, byteMod]; bv_omega

/-! ### The status byte (43_stack.md R152) -/

/-- A bit of a byte, by words and by numbers. -/
theorem getElem_eq_bit (v : Byte) {k : Nat} (hk : k < 8) : v[k] = bit v k := by
  rw [BitVec.getElem_eq_testBit_toNat, Nat.testBit_eq_decide_div_mod_eq, bit]

/-- A bit put below a word: the word's number doubled, plus the bit. -/
theorem toNat_append_ofBool {w : Nat} (u : BitVec w) (c : Bool) :
    (u ++ BitVec.ofBool c).toNat = u.toNat * 2 + num c := by
  have hc : num c = c.toNat := by cases c <;> rfl
  rw [hc]; exact BitVec.toNat_concat u c

/-- `PushedP(b4)`, by bits and as a sum of powers of two: each bit appended doubles the number so far. -/
theorem pushedP_eq_statusByte (cfg : Config) (b4 : Bool) (f : Flags) :
    pushedP cfg b4 f = statusByte cfg.bit5Pushed b4 f := by
  apply BitVec.eq_of_toNat_eq
  have hn : (BitVec.ofBool f.n).toNat = num f.n := by cases f.n <;> rfl
  have hlt := (pushedP cfg b4 f).isLt
  simp only [pushedP, toNat_append_ofBool, hn, statusByte, byteMod, BitVec.toNat_ofNat] at hlt ⊢
  omega

/-- Bit 4 of the byte that `PHP` pushes (R154). -/
theorem phpBit4_eq (cfg : Config) (f : Flags) : phpBit4 cfg f = if cfg.bModel = .stored then f.b else true := by
  unfold phpBit4; cases cfg.bModel <;> rfl

/-- B after a pull (R152; 10_state.md R30). -/
theorem loadB_eq (model : BModel) (old bit4 : Bool) : loadB model old bit4 = if model = .stored then bit4 else old := by
  cases model <;> rfl

/-- `LoadP(b)`, by words and by numbers. -/
theorem loadP_eq_unpacked (cfg : Config) (b : Byte) (f : Flags) : loadP cfg b f = unpacked cfg b f := by
  simp only [loadP, unpacked, loadB_eq, getElem_eq_bit]

/-! ### A push and a pull (R150, R151) -/

theorem push_eq (v : Byte) (s : State) : push v s = { memWrite (stackByte s.sp) v s with sp := down s.sp 1 } := by
  rw [← stackAddr_eq_stackByte, ← sub_one_eq_down]; rfl

theorem pulled_eq (s : State) : pulled s = { s with sp := up s.sp 1 } := by
  rw [← add_one_eq_up]; rfl

theorem pullByte_eq (use : BusRead) (s : State) : pullByte use s = memRead use (stackByte (up s.sp 1)) s := by
  rw [← stackAddr_eq_stackByte, ← add_one_eq_up]; rfl

/-! ### Pushes (R153 to R156) -/

theorem exec_pha (s : State) : exec .pha s = .next (advance 1 (push s.a s)) := rfl

theorem exec_phx (s : State) : exec .phx s = .next (advance 1 (push s.x s)) := rfl

theorem exec_phy (s : State) : exec .phy s = .next (advance 1 (push s.y s)) := rfl

theorem exec_php (s : State) :
    exec .php s = .next (advance 1 (push (pushedP s.cfg (phpBit4 s.cfg s.p) s.p) s)) := rfl

/-- An instruction that pushes `v` and finishes writes `v` at the byte S names, and moves S and the PC besides. -/
theorem pushes_of_exec {i : Instr} {v : Byte} {s : State} (h : exec i s = .next (advance 1 (push v s))) :
    ∃ t, Wrote (stackByte s.sp) v s t ∧ exec i s = .next { t with sp := down s.sp 1, pc := pcAfter s 1 } := by
  refine ⟨memWrite (stackByte s.sp) v s, memWrite_wrote _ _ _, ?_⟩
  have hpc : pcAfter (push v s) 1 = pcAfter s 1 := by rw [pcAfter, push_pc, pcAfter]
  rw [h, advance_eq_pcAfter, hpc, push_eq]

/-- Settles O24: each row of the table pushes its register and finishes. -/
theorem pushesOfARegister : Obligations.PushesOfARegister := by
  intro s
  simp only [pushForms, List.forall_mem_cons]
  refine ⟨⟨rfl, ?pha⟩, ⟨rfl, ?phx⟩, ⟨rfl, ?phy⟩, List.forall_mem_nil _⟩
  case pha => exact pushes_of_exec (exec_pha s)
  case phx => exact pushes_of_exec (exec_phx s)
  case phy => exact pushes_of_exec (exec_phy s)

/-- Settles O25: the byte pushed is the status byte, with the bit 4 that `phpBit4_eq` gives for the model of B. -/
theorem phpPushesStatus : Obligations.PhpPushesStatus := by
  intro s
  have run := exec_php s
  rw [pushedP_eq_statusByte, phpBit4_eq] at run
  exact ⟨rfl, pushes_of_exec run⟩

/-! ### Pulls (R149, R157 to R159) -/

theorem exec_pla (s : State) :
    exec .pla s = .next (advance 1 (setStateNZ (pullByte .pull1 s) (setA (pullByte .pull1 s) (pulled s)))) := rfl

theorem exec_plx (s : State) :
    exec .plx s = .next (advance 1 (setStateNZ (pullByte .pull1 s) (setX (pullByte .pull1 s) (pulled s)))) := rfl

theorem exec_ply (s : State) :
    exec .ply s = .next (advance 1 (setStateNZ (pullByte .pull1 s) (setY (pullByte .pull1 s) (pulled s)))) := rfl

theorem exec_plp (s : State) :
    exec .plp s = .next (advance 1 (setFlags (loadP s.cfg (pullByte .pull1 s) s.p) (pulled s))) := rfl

/-- Settles O26: each row sets one register to the byte pulled and finishes as `advance_setStateNZ_eq` says; the flags and the PC
it finishes with do not depend on the register set. -/
theorem pullsOfARegister : Obligations.PullsOfARegister := by
  intro s
  simp only [pullForms, List.forall_mem_cons]
  refine ⟨⟨rfl, ?pla⟩, ⟨rfl, ?plx⟩, ⟨rfl, ?ply⟩, List.forall_mem_nil _⟩
  case pla => rw [exec_pla, advance_setStateNZ_eq, pullByte_eq, pulled_eq]; rfl
  case plx => rw [exec_plx, advance_setStateNZ_eq, pullByte_eq, pulled_eq]; rfl
  case ply => rw [exec_ply, advance_setStateNZ_eq, pullByte_eq, pulled_eq]; rfl

/-- Settles O27: the flags pulled are those that `loadP_eq_unpacked` reads from the byte at the incremented S. -/
theorem plpPullsStatus : Obligations.PlpPullsStatus := by
  intro s
  refine ⟨rfl, ?_⟩
  rw [exec_plp, advance_eq_pcAfter, loadP_eq_unpacked, pullByte_eq, pulled_eq]; rfl

end Sys2Proof.Proofs
end

section
/-! SUPPORT. Increment and decrement (44_inc_dec.md): one more and one less by words and by numbers, the arm of `exec` of each
one-byte instruction, and the law of the memory rows. -/

namespace Sys2Proof.Proofs

open Sys2Proof.Machine Sys2Proof.Claims

/-! ### One more and one less mod 256 -/

theorem add_one_eq_byteMod (v : Byte) : v + 1 = byteMod (v.toNat + 1) := add_one_eq_up v

/-- One less mod 256 is 255 more mod 256. -/
theorem sub_one_eq_byteMod (v : Byte) : v - 1 = byteMod (v.toNat + 255) := sub_one_eq_down v

/-! ### The index registers (R162 to R165) -/

theorem exec_inx (s : State) : exec .inx s = .next (advance 1 (setStateNZ (s.x + 1) (setX (s.x + 1) s))) := rfl

theorem exec_iny (s : State) : exec .iny s = .next (advance 1 (setStateNZ (s.y + 1) (setY (s.y + 1) s))) := rfl

theorem exec_dex (s : State) : exec .dex s = .next (advance 1 (setStateNZ (s.x - 1) (setX (s.x - 1) s))) := rfl

theorem exec_dey (s : State) : exec .dey s = .next (advance 1 (setStateNZ (s.y - 1) (setY (s.y - 1) s))) := rfl

/-- Settles O28: each instruction sets one index register and finishes as `advance_setStateNZ_eq` says; the flags and the PC
it finishes with do not depend on the register set. -/
theorem inxInyDexDeyStepAnIndex : Obligations.InxInyDexDeyStepAnIndex := by
  intro s
  refine ⟨⟨rfl, ?inx⟩, ⟨rfl, ?iny⟩, ⟨rfl, ?dex⟩, ⟨rfl, ?dey⟩⟩
  case inx => rw [exec_inx, advance_setStateNZ_eq, add_one_eq_byteMod]; rfl
  case iny => rw [exec_iny, advance_setStateNZ_eq, add_one_eq_byteMod]; rfl
  case dex => rw [exec_dex, advance_setStateNZ_eq, sub_one_eq_byteMod]; rfl
  case dey => rw [exec_dey, advance_setStateNZ_eq, sub_one_eq_byteMod]; rfl

/-! ### The accumulator (R160, R161) -/

theorem exec_incA (s : State) : exec .incA s = .next (modifyA (· + 1) s) := rfl

theorem exec_decA (s : State) : exec .decA s = .next (modifyA (· - 1) s) := rfl

/-- `modifyA` in the words of the statements. -/
theorem modifyA_eq_pcAfter (f : Byte → Byte) (s : State) :
    modifyA f s = { s with a := f s.a, p := withNZ (f s.a) s.p, pc := pcAfter s 1 } := by
  rw [modifyA_eq, setNZ_eq_withNZ, ← pc_add_eq_pcAfter]; rfl

/-! ### The memory rows (R160, R161) -/

/-- Rows that run `modifyMem` obey the law of a change in memory, where the change by words is the one by numbers mod 256. -/
theorem modifiesMemory_of_run_modifyMem {forms : List MemForm} {f : Byte → Byte} {g : Nat → Nat}
    (hfg : ∀ v, f v = byteMod (g v.toNat)) (h : ∀ q ∈ forms, RunsOnMemory (modifyMem f) q) :
    ModifiesMemory forms g := by
  intro s q hq
  have row := h q hq
  refine ⟨row.opcode, memWrite (effAddr q.mode s) (f (memRead .data (effAddr q.mode s) s)) s, ?wrote, ?exec⟩
  case wrote => rw [← hfg]; exact memWrite_wrote _ _ _
  case exec => rw [← hfg, row.exec, modifyMem_eq, row.len, setNZ_eq_withNZ, pc_add_eq_pcAfter]

theorem incForms_run (b : Byte) (w : Addr) : ∀ q ∈ incForms b w, RunsOnMemory (modifyMem (· + 1)) q := by
  simp only [incForms, List.forall_mem_cons]
  refine ⟨?zp, ?abs, ?zpX, ?absX, List.forall_mem_nil _⟩ <;> exact ⟨rfl, rfl, fun _ => rfl⟩

theorem decForms_run (b : Byte) (w : Addr) : ∀ q ∈ decForms b w, RunsOnMemory (modifyMem (· - 1)) q := by
  simp only [decForms, List.forall_mem_cons]
  refine ⟨?zp, ?abs, ?zpX, ?absX, List.forall_mem_nil _⟩ <;> exact ⟨rfl, rfl, fun _ => rfl⟩

/-- Settles O29: the accumulator forms run `modifyA` and the memory rows `modifyMem`, each on one more or on one less. -/
theorem incDecChangeByOne : Obligations.IncDecChangeByOne := by
  refine ⟨fun s => ⟨⟨rfl, ?incA⟩, ⟨rfl, ?decA⟩⟩, fun b w => ?inc, fun b w => ?dec⟩
  case incA => rw [exec_incA, modifyA_eq_pcAfter, add_one_eq_byteMod]
  case decA => rw [exec_decA, modifyA_eq_pcAfter, sub_one_eq_byteMod]
  case inc => exact modifiesMemory_of_run_modifyMem add_one_eq_byteMod (incForms_run b w)
  case dec => exact modifiesMemory_of_run_modifyMem sub_one_eq_byteMod (decForms_run b w)

end Sys2Proof.Proofs
end

section
/-! SUPPORT. Shifts and rotates (45_shift_rotate.md): the four functions by words and by numbers, and the law of the common frame
for the rows that run it. -/

namespace Sys2Proof.Proofs

open Sys2Proof.Machine Sys2Proof.Claims

/-! ### The functions (R170 to R173), by bits and by numbers -/

/-- A bit as a number, in the words of the statements and in Lean's. -/
theorem num_eq_toNat (c : Bool) : num c = c.toNat := by cases c <;> rfl

/-- A bit put above a word: the word's number, plus the bit times the word's range. -/
theorem toNat_ofBool_append {w : Nat} (c : Bool) (u : BitVec w) :
    (BitVec.ofBool c ++ u).toNat = num c * 2 ^ w + u.toNat := by
  rw [num_eq_toNat, BitVec.toNat_append, ← Nat.shiftLeft_add_eq_or_of_lt u.isLt, Nat.shiftLeft_eq, BitVec.toNat_ofBool]

theorem aslFn_eq (v : Byte) (c : Bool) : aslFn v c = { r := byteMod (2 * v.toNat), c := bit v 7 } := by
  have result : v <<< 1 = byteMod (2 * v.toNat) := by
    simp only [byteMod]; bv_omega
  rw [aslFn, result, getElem_eq_bit]

theorem lsrFn_eq (v : Byte) (c : Bool) : lsrFn v c = { r := byteMod (v.toNat / 2), c := bit v 0 } := by
  have result : v >>> 1 = byteMod (v.toNat / 2) := by
    simp only [byteMod]; bv_omega
  rw [lsrFn, result, getElem_eq_bit]

/-- `v[6:0] ## cin` is twice the byte, the carry in below it. -/
theorem rolFn_eq (v : Byte) (c : Bool) : rolFn v c = { r := byteMod (2 * v.toNat + num c), c := bit v 7 } := by
  have hc : num c ≤ 1 := num_eq_toNat c ▸ c.toNat_le
  have result : v.extractLsb' 0 7 ++ BitVec.ofBool c = byteMod (2 * v.toNat + num c) := by
    apply BitVec.eq_of_toNat_eq
    simp only [toNat_append_ofBool, BitVec.extractLsb'_toNat, byteMod, BitVec.toNat_ofNat, Nat.shiftRight_zero]
    omega
  rw [rolFn, result, getElem_eq_bit]

/-- `cin ## v[7:1]` is half the byte, the carry in above it. -/
theorem rorFn_eq (v : Byte) (c : Bool) : rorFn v c = { r := byteMod (v.toNat / 2 + 128 * num c), c := bit v 0 } := by
  have hc : num c ≤ 1 := num_eq_toNat c ▸ c.toNat_le
  have result : BitVec.ofBool c ++ v.extractLsb' 1 7 = byteMod (v.toNat / 2 + 128 * num c) := by
    apply BitVec.eq_of_toNat_eq
    simp only [toNat_ofBool_append, BitVec.extractLsb'_toNat, byteMod, BitVec.toNat_ofNat, Nat.shiftRight_one]
    omega
  rw [rorFn, result, getElem_eq_bit]

/-! ### The common frame (R174) -/

/-- An accumulator form that runs `shiftA` and rows that run `shiftMem` obey the law of a shift, where the shift by bits is the
one by numbers mod 256 with bit `k` as the carry out. -/
theorem shifts_of_run {acc : Instr} {accOpcode : Byte} {forms : List MemForm} {f : Byte → Bool → CarryResult}
    {g : Nat → Nat → Nat} {k : Nat} (hfg : ∀ v c, f v c = { r := byteMod (g v.toNat (num c)), c := bit v k })
    (opcode : opcodeOf acc = accOpcode) (run : ∀ s, exec acc s = .next (shiftA f s))
    (rows : ∀ q ∈ forms, RunsOnMemory (shiftMem f) q) : Shifts acc accOpcode forms g k := by
  refine ⟨fun s => ⟨opcode, ?accumulator⟩, fun s q hq => ?memory⟩
  case accumulator => rw [run, shiftA_eq, hfg, setNZ_eq_withNZ, ← pc_add_eq_pcAfter]; rfl
  case memory =>
    have row := rows q hq
    refine ⟨row.opcode, _, memWrite_wrote _ _ _, ?_⟩
    rw [row.exec, shiftMem_eq, hfg, row.len, setNZ_eq_withNZ, pc_add_eq_pcAfter]

/-! ### What each row runs -/

theorem exec_aslA (s : State) : exec .aslA s = .next (shiftA aslFn s) := rfl

theorem exec_lsrA (s : State) : exec .lsrA s = .next (shiftA lsrFn s) := rfl

theorem exec_rolA (s : State) : exec .rolA s = .next (shiftA rolFn s) := rfl

theorem exec_rorA (s : State) : exec .rorA s = .next (shiftA rorFn s) := rfl

theorem aslForms_run (b : Byte) (w : Addr) : ∀ q ∈ aslForms b w, RunsOnMemory (shiftMem aslFn) q := by
  simp only [aslForms, List.forall_mem_cons]
  refine ⟨?zp, ?abs, ?zpX, ?absX, List.forall_mem_nil _⟩ <;> exact ⟨rfl, rfl, fun _ => rfl⟩

theorem lsrForms_run (b : Byte) (w : Addr) : ∀ q ∈ lsrForms b w, RunsOnMemory (shiftMem lsrFn) q := by
  simp only [lsrForms, List.forall_mem_cons]
  refine ⟨?zp, ?abs, ?zpX, ?absX, List.forall_mem_nil _⟩ <;> exact ⟨rfl, rfl, fun _ => rfl⟩

theorem rolForms_run (b : Byte) (w : Addr) : ∀ q ∈ rolForms b w, RunsOnMemory (shiftMem rolFn) q := by
  simp only [rolForms, List.forall_mem_cons]
  refine ⟨?zp, ?abs, ?zpX, ?absX, List.forall_mem_nil _⟩ <;> exact ⟨rfl, rfl, fun _ => rfl⟩

theorem rorForms_run (b : Byte) (w : Addr) : ∀ q ∈ rorForms b w, RunsOnMemory (shiftMem rorFn) q := by
  simp only [rorForms, List.forall_mem_cons]
  refine ⟨?zp, ?abs, ?zpX, ?absX, List.forall_mem_nil _⟩ <;> exact ⟨rfl, rfl, fun _ => rfl⟩

/-- Settles O30: the five forms of each run the common frame on `aslFn`, which doubles and carries bit 7 out, or on `lsrFn`,
which halves and carries bit 0 out. -/
theorem aslLsrShift : Obligations.AslLsrShift := fun b w =>
  ⟨shifts_of_run aslFn_eq rfl exec_aslA (aslForms_run b w), shifts_of_run lsrFn_eq rfl exec_lsrA (lsrForms_run b w)⟩

/-- Settles O31: the same frame on `rolFn` and `rorFn`, which bring the old carry in at the end left free. -/
theorem rolRorRotate : Obligations.RolRorRotate := fun b w =>
  ⟨shifts_of_run rolFn_eq rfl exec_rolA (rolForms_run b w), shifts_of_run rorFn_eq rfl exec_rorA (rorForms_run b w)⟩

end Sys2Proof.Proofs
end

section
/-! SUPPORT. Logic, bit test, compare, test-and-modify (46_logical_compare.md): zero, compare and complement by words and by
numbers, and the law of each family for the rows that run its shared operation. -/

namespace Sys2Proof.Proofs

open Sys2Proof.Machine Sys2Proof.Claims

/-! ### The words of the statements and those of the model -/

/-- A test for zero, by words and by numbers. -/
theorem beq_zero_eq_decide (v : Byte) : (v == 0) = decide (v.toNat = 0) := decide_eq_decide.2 BitVec.toNat_eq

/-- `Compare(R, m)` (R189): the difference mod 256 is zero just where the two are equal, and its bit 7 is set just where it is
128 or more. -/
theorem compareFlags_eq_compared (r m : Byte) (f : Flags) : compareFlags r m f = compared r m f := by
  have hz : (r - m == 0) = decide (r = m) := decide_eq_decide.2 sub_eq_zero
  have hdiff : (r - m).toNat = (r.toNat + 256 - m.toNat) % 256 := by bv_omega
  have hn : (r - m)[7] = decide (128 ≤ (r.toNat + 256 - m.toNat) % 256) := hdiff ▸ BitVec.msb_eq_decide (r - m)
  simp only [compareFlags, compared, hz, hn]

/-- The 8-bit complement (R187), by bits and by numbers. -/
theorem not_eq_byteMod (v : Byte) : ~~~v = byteMod (255 - v.toNat) := by
  simp only [byteMod]; bv_omega

/-! ### The accumulator's operations (R180 to R182) -/

/-- Rows that run `logicA` obey the law of a logical operation. -/
theorem combines_of_run_logicA {forms : List Form} {f : Byte → Byte → Byte}
    (h : ∀ q ∈ forms, RunsOnOperand (logicA f) q) : Combines forms f := by
  intro s q hq
  have row := h q hq
  exact ⟨row.opcode, by rw [row.exec, logicA_eq, row.len, setNZ_eq_withNZ, pc_add_eq_pcAfter]⟩

theorem andForms_run (b : Byte) (w : Addr) :
    ∀ q ∈ andForms b w, RunsOnOperand (logicA fun a m => a &&& m) q := by
  simp only [andForms, List.forall_mem_cons]
  refine ⟨?indX, ?zp, ?imm, ?abs, ?indY, ?ind, ?zpX, ?absY, ?absX, List.forall_mem_nil _⟩ <;>
    exact ⟨rfl, rfl, fun _ => rfl⟩

theorem oraForms_run (b : Byte) (w : Addr) :
    ∀ q ∈ oraForms b w, RunsOnOperand (logicA fun a m => a ||| m) q := by
  simp only [oraForms, List.forall_mem_cons]
  refine ⟨?indX, ?zp, ?imm, ?abs, ?indY, ?ind, ?zpX, ?absY, ?absX, List.forall_mem_nil _⟩ <;>
    exact ⟨rfl, rfl, fun _ => rfl⟩

theorem eorForms_run (b : Byte) (w : Addr) :
    ∀ q ∈ eorForms b w, RunsOnOperand (logicA fun a m => a ^^^ m) q := by
  simp only [eorForms, List.forall_mem_cons]
  refine ⟨?indX, ?zp, ?imm, ?abs, ?indY, ?ind, ?zpX, ?absY, ?absX, List.forall_mem_nil _⟩ <;>
    exact ⟨rfl, rfl, fun _ => rfl⟩

/-- Settles O33: each row runs `logicA` on the operation of its mnemonic. -/
theorem andOraEorCombine : Obligations.AndOraEorCombine := fun b w =>
  ⟨combines_of_run_logicA (andForms_run b w), combines_of_run_logicA (oraForms_run b w),
    combines_of_run_logicA (eorForms_run b w)⟩

/-! ### The bit test (R183) -/

theorem exec_bitImm (b : Byte) (s : State) :
    exec (.bitImm b) s = .next (advance 2 (setFlags { s.p with z := s.a &&& b == 0 } s)) := rfl

theorem bitForms_run (b : Byte) (w : Addr) : ∀ q ∈ bitForms b w, RunsOnMemory bitTestMem q := by
  simp only [bitForms, List.forall_mem_cons]
  refine ⟨?zp, ?abs, ?zpX, ?absX, List.forall_mem_nil _⟩ <;> exact ⟨rfl, rfl, fun _ => rfl⟩

/-- Settles O34: the memory rows run `bitTestMem`, whose next state `bitTestMem_eq` gives; the immediate form replaces Z and
finishes. -/
theorem bitTestsOnly : Obligations.BitTestsOnly := by
  intro b w s
  refine ⟨fun q hq => ?memory, rfl, ?immediate⟩
  case memory =>
    have row := bitForms_run b w q hq
    refine ⟨row.opcode, ?_⟩
    rw [row.exec, bitTestMem_eq, beq_zero_eq_decide, getElem_eq_bit, getElem_eq_bit, row.len, pc_add_eq_pcAfter]
  case immediate => rw [exec_bitImm, advance_eq_pcAfter, beq_zero_eq_decide]; rfl

/-! ### The compares (R184 to R186, R189) -/

/-- Rows that run `compareWith` on the register `r` of the state obey the law of a compare. -/
theorem compares_of_run_compareWith {forms : List Form} {r : State → Byte}
    (h : ∀ q ∈ forms, RunsOnOperand (fun o s => compareWith (r s) o s) q) : Compares forms r := by
  intro s q hq
  have row := h q hq
  exact ⟨row.opcode, by rw [row.exec, compareWith_eq, compareFlags_eq_compared, row.len, pc_add_eq_pcAfter]⟩

theorem cmpForms_run (b : Byte) (w : Addr) :
    ∀ q ∈ cmpForms b w, RunsOnOperand (fun o s => compareWith s.a o s) q := by
  simp only [cmpForms, List.forall_mem_cons]
  refine ⟨?indX, ?zp, ?imm, ?abs, ?indY, ?ind, ?zpX, ?absY, ?absX, List.forall_mem_nil _⟩ <;>
    exact ⟨rfl, rfl, fun _ => rfl⟩

theorem cpxForms_run (b : Byte) (w : Addr) :
    ∀ q ∈ cpxForms b w, RunsOnOperand (fun o s => compareWith s.x o s) q := by
  simp only [cpxForms, List.forall_mem_cons]
  refine ⟨?imm, ?zp, ?abs, List.forall_mem_nil _⟩ <;> exact ⟨rfl, rfl, fun _ => rfl⟩

theorem cpyForms_run (b : Byte) (w : Addr) :
    ∀ q ∈ cpyForms b w, RunsOnOperand (fun o s => compareWith s.y o s) q := by
  simp only [cpyForms, List.forall_mem_cons]
  refine ⟨?imm, ?zp, ?abs, List.forall_mem_nil _⟩ <;> exact ⟨rfl, rfl, fun _ => rfl⟩

/-- Settles O35: each row runs `compareWith` on A, on X or on Y. -/
theorem comparesSetFlags : Obligations.ComparesSetFlags := fun b w =>
  ⟨compares_of_run_compareWith (cmpForms_run b w), compares_of_run_compareWith (cpxForms_run b w),
    compares_of_run_compareWith (cpyForms_run b w)⟩

/-! ### Test and modify (R187, R188) -/

/-- Rows that run `testModify` obey the law of a test-and-modify, where the change by bits is the one the statement names. -/
theorem testsAndModifies_of_run_testModify {forms : List MemForm} {f g : Byte → Byte → Byte}
    (hfg : ∀ a m, f a m = g a m) (h : ∀ q ∈ forms, RunsOnMemory (testModify f) q) : TestsAndModifies forms g := by
  intro s q hq
  have row := h q hq
  refine ⟨row.opcode, _, memWrite_wrote _ _ _, ?_⟩
  rw [row.exec, testModify_eq, hfg, beq_zero_eq_decide, row.len, pc_add_eq_pcAfter]

theorem trbForms_run (b : Byte) (w : Addr) :
    ∀ q ∈ trbForms b w, RunsOnMemory (testModify fun a m => ~~~a &&& m) q := by
  simp only [trbForms, List.forall_mem_cons]
  refine ⟨?zp, ?abs, List.forall_mem_nil _⟩ <;> exact ⟨rfl, rfl, fun _ => rfl⟩

theorem tsbForms_run (b : Byte) (w : Addr) :
    ∀ q ∈ tsbForms b w, RunsOnMemory (testModify fun a m => a ||| m) q := by
  simp only [tsbForms, List.forall_mem_cons]
  refine ⟨?zp, ?abs, List.forall_mem_nil _⟩ <;> exact ⟨rfl, rfl, fun _ => rfl⟩

/-- Settles O36: the rows of `TRB` write the byte masked by the complement of A, which `not_eq_byteMod` gives as a number, those
of `TSB` the byte with the bits of A set. -/
theorem trbTsbTestAndModify : Obligations.TrbTsbTestAndModify := fun b w =>
  ⟨testsAndModifies_of_run_testModify (fun a m => congrArg (· &&& m) (not_eq_byteMod a)) (trbForms_run b w),
    testsAndModifies_of_run_testModify (fun _ _ => rfl) (tsbForms_run b w)⟩

end Sys2Proof.Proofs
end

section
/-! SUPPORT. Control flow (48_control_flow.md): S moved up once more, and the arm of `exec` of `RTI`. -/

namespace Sys2Proof.Proofs

open Sys2Proof.Machine Sys2Proof.Claims

/-! ### Return from interrupt (R205) -/

/-- One pull after `k` pulls: the wraps of S mod 256 (R151) add up to one. -/
theorem up_add_one (sp : Byte) (k : Nat) : up sp k + 1 = up sp (k + 1) := by
  apply BitVec.eq_of_toNat_eq
  simp [up, byteMod, Nat.add_assoc]

theorem exec_rti (s : State) : exec .rti s = .next (returnFromInterrupt s) := rfl

/-- Settles O45: `returnFromInterrupt_eq` gives the next state; its three pulls are at S moved up by 1, 2 and 3, the first is the
status byte that `loadP_eq_unpacked` reads, and the other two make the new PC. -/
theorem rtiRestoresStatusAndPc : Obligations.RtiRestoresStatusAndPc := by
  intro s
  refine ⟨rfl, ?_⟩
  rw [exec_rti, returnFromInterrupt_eq, loadP_eq_unpacked, pullByte_eq, word_eq_wordOf, stackAddr_eq_stackByte,
    stackAddr_eq_stackByte, add_one_eq_up s.sp, up_add_one, up_add_one]

end Sys2Proof.Proofs
end

section
/-! SUPPORT. Flag instructions, `NOP`, `BRK` and the unused opcodes (49_status_system.md): the arms of `exec`, and taking an
exception in the words of `Sys2Proof.Claims`. -/

namespace Sys2Proof.Proofs

open Sys2Proof.Machine Sys2Proof.Claims

/-! ### Flag instructions and `NOP` (R220 to R227) -/

theorem exec_nop (s : State) : exec .nop s = .next (advance 1 s) := rfl

/-- Each flag instruction has its row's opcode, puts the row's flags in place and finishes. -/
theorem flagForms_run (s : State) : ∀ q ∈ flagForms s.p, opcodeOf q.2.1 = q.1 ∧
    exec q.2.1 s = .next (advance 1 (setFlags q.2.2 s)) := by
  simp only [flagForms, List.forall_mem_cons]
  refine ⟨?clc, ?cld, ?cli, ?clv, ?sec, ?sed, ?sei, List.forall_mem_nil _⟩ <;> exact ⟨rfl, rfl⟩

/-- Settles O47: `flagForms_run` and `exec_nop` say what each instruction runs, `advance_eq_pcAfter` how it finishes; the PC it
finishes with does not depend on the flags. -/
theorem flagInstructionsAndNop : Obligations.FlagInstructionsAndNop := by
  constructor
  · intro s q hq
    obtain ⟨hop, hexec⟩ := flagForms_run s q hq
    exact ⟨hop, by rw [hexec, advance_eq_pcAfter]; rfl⟩
  · exact fun s => ⟨rfl, by rw [exec_nop, advance_eq_pcAfter]⟩

/-! ### The unused opcodes (R231) -/

/-- Every instruction without an assigned mnemonic runs `unusedNop` on its own opcode: of the 256 constructors the hypothesis
leaves the 78 unused ones, and each of their arms is that call. -/
theorem exec_of_mnemonic_unused {i : Instr} (h : i.mnemonic = .unused) (s : State) :
    exec i s = .next (unusedNop (opcodeOf i) s) := by
  cases i <;> cases h <;> rfl

/-- The rows of the table are unused opcodes (30_encoding.md R91). -/
theorem unusedForms_unused : ∀ q ∈ unusedForms, opcodeOf q.2.1 = q.1 ∧ q.2.1.mnemonic = .unused := by decide

/-- Settles O49: each row runs `unusedNop` on its opcode, whose next state `unusedNop_eq` gives. -/
theorem unusedOpcodesOnlyAdvance : Obligations.UnusedOpcodesOnlyAdvance := by
  intro s q hq
  obtain ⟨hop, hunused⟩ := unusedForms_unused q hq
  exact ⟨hop, by rw [exec_of_mnemonic_unused hunused, hop, unusedNop_eq, pc_add_eq_pcAfter]⟩

/-! ### Taking an exception (60_exceptions.md R251, R255, R257) -/

/-- One push after `k` pushes: the wraps of S mod 256 (43_stack.md R150) add up to one. -/
theorem down_sub_one (sp : Byte) {k : Nat} (hk : k < 256) : down sp k - 1 = down sp (k + 1) := by
  simp only [down, byteMod]; bv_omega

/-- The high byte of an address, by words and by numbers (20_memory.md R52). -/
theorem hiByte_addrMod (n : Nat) : hiByte (addrMod n) = byteMod (n % 65536 / 256) := by
  apply BitVec.eq_of_toNat_eq
  simp only [hiByte, addrMod, byteMod, BitVec.extractLsb'_toNat, BitVec.toNat_ofNat, Nat.shiftRight_eq_div_pow]
  omega

/-- The low byte of an address, by words and by numbers (20_memory.md R52). -/
theorem loByte_addrMod (n : Nat) : loByte (addrMod n) = byteMod n := by
  apply BitVec.eq_of_toNat_eq
  simp only [loByte, addrMod, byteMod, BitVec.extractLsb'_toNat, BitVec.toNat_ofNat, Nat.shiftRight_zero]
  omega

/-- The word a vector holds (20_memory.md R61; 60_exceptions.md R242), by words and by numbers. -/
theorem vectorWord_eq_vector (a : Addr) (s : State) : vectorWord a s = vector a s := by
  have hnext : a + 1 = addrMod (a.toNat + 1) := by simp only [addrMod]; bv_omega
  rw [vectorWord, memReadWord, word_eq_wordOf, hnext, vector]

/-- A write does not look at S and leaves it alone. -/
theorem memWrite_setSp (a : Addr) (v sp : Byte) (s : State) : memWrite a v (setSp sp s) = setSp sp (memWrite a v s) := by
  unfold memWrite; rw [setSp_cfg]; cases kindOf s.cfg a <;> rfl

/-- A write does not look at the flags and leaves them alone. -/
theorem memWrite_setFlags (a : Addr) (v : Byte) (f : Flags) (s : State) :
    memWrite a v (setFlags f s) = setFlags f (memWrite a v s) := by
  unfold memWrite; rw [setFlags_cfg]; cases kindOf s.cfg a <;> rfl

/-- The three bytes of an exception entry in their places, with S, the flags and the PC as before it. -/
def entryWritten (ret : Addr) (b4 : Bool) (s : State) : State :=
  memWrite (stackByte (down s.sp 2)) (statusByte s.cfg.bit5Pushed b4 s.p)
    (memWrite (stackByte (down s.sp 1)) (loByte ret) (memWrite (stackByte s.sp) (hiByte ret) s))

theorem entryWritten_entered (ret : Nat) (b4 : Bool) (s : State) :
    Entered ret b4 s (entryWritten (addrMod ret) b4 s) := by
  unfold entryWritten
  rw [hiByte_addrMod, loByte_addrMod]
  exact ⟨_, _, memWrite_wrote _ _ _, memWrite_wrote _ _ _, memWrite_wrote _ _ _⟩

@[simp] theorem entryWritten_p (ret : Addr) (b4 : Bool) (s : State) : (entryWritten ret b4 s).p = s.p := by
  simp only [entryWritten, memWrite_p]

/-- The three pushes of an exception entry (R251): each finds S one lower, and none depends on it otherwise. -/
theorem push_pushWord_eq (ret : Addr) (b4 : Bool) (s : State) :
    push (pushedP s.cfg b4 s.p) (pushWord ret s) = setSp (down s.sp 3) (entryWritten ret b4 s) := by
  simp only [pushWord, push, setSp_sp, memWrite_setSp, stackAddr_eq_stackByte, sub_one_eq_down s.sp,
    down_sub_one s.sp (by decide : 1 < 256), down_sub_one s.sp (by decide : 2 < 256), pushedP_eq_statusByte, entryWritten]
  rfl

/-- Taking an exception: the three bytes in their places, then S, I, D and the PC move; the vector is read after the pushes. -/
theorem enter_eq (ret vec : Addr) (b4 : Bool) (s : State) :
    enter ret vec b4 s = { entryWritten ret b4 s with
      sp := down s.sp 3, p := { s.p with i := true, d := false }, pc := vector vec (entryWritten ret b4 s) } := by
  simp only [enter, pushWord_cfg, pushWord_p, push_pushWord_eq, setSp_p, entryWritten_p, vectorWord_eq_vector]
  rfl

/-! ### `BRK` (R228; 60_exceptions.md R255) -/

theorem exec_brk (s : State) :
    exec .brk s = .next (enter (s.pc + 2) 0xFFFE true (setFlags (breakB s.cfg s.p) s)) := rfl

/-- `BRK` writes the stored B alone (R228). -/
theorem breakB_eq (cfg : Config) (f : Flags) :
    breakB cfg f = { f with b := if cfg.bModel = .stored then true else f.b } := by
  unfold breakB; cases cfg.bModel <;> rfl

/-- The bytes of an exception entry do not hold the live B: bit 4 is given (43_stack.md R152). -/
theorem entryWritten_setFlags_b (ret : Addr) (b4 b : Bool) (s : State) :
    entryWritten ret b4 (setFlags { s.p with b := b } s) = setFlags { s.p with b := b } (entryWritten ret b4 s) := by
  simp only [entryWritten, memWrite_setFlags]; rfl

/-- Settles O48: `enter_eq` gives the next state, in which I and D are written over the flags that `breakB_eq` gives. -/
theorem brkEntersTheHandler : Obligations.BrkEntersTheHandler := by
  intro s
  refine ⟨rfl, entryWritten (addrMod (s.pc.toNat + 2)) true s, entryWritten_entered _ _ _, ?_⟩
  have hret : s.pc + 2 = addrMod (s.pc.toNat + 2) := pc_add_eq_pcAfter s 2
  rw [exec_brk, enter_eq, breakB_eq, entryWritten_setFlags_b, hret]
  rfl

end Sys2Proof.Proofs
end

section
/-! SUPPORT. The decoder and the encoder (30_encoding.md): a word and its two bytes, what an opcode fixes, what the decoder makes of
an encoder's operand bytes, and the round trips. -/

namespace Sys2Proof.Proofs

open Sys2Proof.Machine Sys2Proof.Claims

/-! ### A word and its two bytes (20_memory.md R52) -/

@[simp] theorem loByte_word (lo hi : Byte) : loByte (word lo hi) = lo := BitVec.extractLsb'_append_eq_right

@[simp] theorem hiByte_word (lo hi : Byte) : hiByte (word lo hi) = hi := BitVec.extractLsb'_append_eq_left

@[simp] theorem word_loByte_hiByte (w : Addr) : word (loByte w) (hiByte w) = w :=
  BitVec.extractLsb'_append_extractLsb' (w := 8) (len := 8)

/-! ### What an opcode fixes (R80 to R82, R90) -/

/-- Every byte is the opcode of an instruction (R90). -/
theorem exists_opcodeOf_eq (op : Byte) : ∃ i, opcodeOf i = op := by
  have decoded : ∀ op : Byte, opcodeOf (decodeBytes op 0 0) = op := by decide
  exact ⟨_, decoded op⟩

/-- The decoder keeps the opcode, whatever the operand bytes. -/
theorem opcodeOf_decodeBytes (op b1 b2 : Byte) : opcodeOf (decodeBytes op b1 b2) = op := by
  obtain ⟨i, rfl⟩ := exists_opcodeOf_eq op
  cases i <;> dsimp only [opcodeOf] <;> rfl

/-- The opcode fixes the mnemonic (R86). -/
theorem mnemonic_decodeBytes (i : Instr) (b1 b2 : Byte) : (decodeBytes (opcodeOf i) b1 b2).mnemonic = i.mnemonic := by
  cases i <;> dsimp only [opcodeOf] <;> rfl

/-- The unused opcodes (R90, R91) are those of the instructions without an assigned mnemonic. -/
theorem isUnusedOpcode_opcodeOf (i : Instr) : isUnusedOpcode (opcodeOf i) = decide (i.mnemonic = .unused) := by
  cases i <;> dsimp only [opcodeOf] <;> rfl

/-- An unused opcode has no operand (R231; log 12). -/
theorem operandBytes_of_unused {i : Instr} (h : i.mnemonic = .unused) : operandBytes i = [] := by
  cases i <;> cases h <;> rfl

/-- The format of an opcode asks for the bytes that its instruction has (R80, R81, R91). -/
theorem opcodeLength_opcodeOf (table : List NopEntry) (i : Instr) :
    opcodeLength table (opcodeOf i) =
      bif i.mnemonic = .unused then nopLength table (opcodeOf i) else (operandBytes i).length + 1 := by
  cases i <;> dsimp only [opcodeOf, operandBytes, List.length] <;> rfl

theorem instrLength_of_assigned (table : List NopEntry) {i : Instr} (h : isUnusedOpcode (opcodeOf i) = false) :
    instrLength table i = (operandBytes i).length + 1 := by
  simp [instrLength, h, Nat.add_comm]

theorem opcodeLength_eq_instrLength (table : List NopEntry) (i : Instr) :
    opcodeLength table (opcodeOf i) = instrLength table i := by
  rw [opcodeLength_opcodeOf, ← isUnusedOpcode_opcodeOf, instrLength, Nat.add_comm, Bool.cond_eq_ite]

/-! ### What the decoder makes of operand bytes (R83, R84) -/

/-- The decoder finds the operand in the bytes that the encoder writes after the opcode, whatever follows them; and the encoder writes
the operand bytes that the decoder read, as many as the format has. The two bytes of a 16-bit operand make it up again, in either
order of the two steps. -/
theorem decodeBytes_operandBytes (i : Instr) :
    (∀ tail, decodeBytes (opcodeOf i) ((operandBytes i ++ tail).getD 0 0) ((operandBytes i ++ tail).getD 1 0) = i) ∧
    (∀ b1 b2, operandBytes (decodeBytes (opcodeOf i) b1 b2) = [b1, b2].take (operandBytes i).length) := by
  cases i with
  | tsbAbs w | oraAbs w | aslAbs w | oraAbsY w | trbAbs w | oraAbsX w | aslAbsX w | jsr w | bitAbs w | andAbs w | rolAbs w
  | andAbsY w | bitAbsX w | andAbsX w | rolAbsX w | jmpAbs w | eorAbs w | lsrAbs w | eorAbsY w | eorAbsX w | lsrAbsX w
  | jmpInd w | adcAbs w | rorAbs w | adcAbsY w | jmpIndX w | adcAbsX w | rorAbsX w | styAbs w | staAbs w | stxAbs w
  | staAbsY w | stzAbs w | staAbsX w | stzAbsX w | ldyAbs w | ldaAbs w | ldxAbs w | ldaAbsY w | ldyAbsX w | ldaAbsX w
  | ldxAbsY w | cpyAbs w | cmpAbs w | decAbs w | cmpAbsY w | cmpAbsX w | decAbsX w | cpxAbs w | sbcAbs w | incAbs w
  | sbcAbsY w | sbcAbsX w | incAbsX w =>
    dsimp only [opcodeOf]
    constructor
    · intro tail
      conv_rhs => rw [← word_loByte_hiByte w]
      rfl
    · intro b1 b2
      change [loByte (word b1 b2), hiByte (word b1 b2)] = [b1, b2]
      rw [loByte_word, hiByte_word]
  | _ => dsimp only [opcodeOf]; exact ⟨fun _ => rfl, fun _ _ => rfl⟩

theorem operandBytes_length_le_two (i : Instr) : (operandBytes i).length ≤ 2 := by
  rw [← (decodeBytes_operandBytes i).1 [], (decodeBytes_operandBytes i).2, List.length_take]
  exact Nat.min_le_right _ _

/-! ### Lengths (R80, R81, R91) -/

theorem nopLength_le_three (table : List NopEntry) (op : Byte) : nopLength table op ≤ 3 := by
  unfold nopLength
  split
  · next e _ => cases e.len <;> decide
  · decide

/-- An instruction has its opcode and its operand bytes at least. -/
theorem operandBytes_length_lt_instrLength (table : List NopEntry) (i : Instr) :
    (operandBytes i).length < instrLength table i := by
  cases h : isUnusedOpcode (opcodeOf i)
  · rw [instrLength_of_assigned table h]; exact Nat.lt_succ_self _
  · rw [isUnusedOpcode_opcodeOf, decide_eq_true_eq] at h
    rw [operandBytes_of_unused h, instrLength]
    split
    · exact Laws.nopLength_pos table _
    · exact Nat.lt_add_right _ Nat.zero_lt_one

theorem instrLength_le_three (table : List NopEntry) (i : Instr) : instrLength table i ≤ 3 := by
  unfold instrLength
  split
  · exact nopLength_le_three table _
  · have := operandBytes_length_le_two i; omega

theorem encode_length (table : List NopEntry) (i : Instr) : (encode table i).length = instrLength table i := by
  have := operandBytes_length_lt_instrLength table i
  simp only [encode, List.length_cons, List.length_append, List.length_replicate]; omega

/-! ### The round trips (R82) -/

theorem decode_of_enough {table : List NopEntry} {op : Byte} {rest : List Byte}
    (h : opcodeLength table op - 1 ≤ rest.length) :
    decode table (op :: rest) =
      .ok (decodeBytes op (rest.getD 0 0) (rest.getD 1 0), rest.drop (opcodeLength table op - 1)) := if_pos h

/-- A list that decodes holds an opcode, the operand bytes of its format and the rest. -/
theorem of_decode_eq_ok {table : List NopEntry} {bytes rest : List Byte} {i : Instr}
    (h : decode table bytes = .ok (i, rest)) :
    ∃ tail, bytes = opcodeOf i :: tail ∧ instrLength table i - 1 ≤ tail.length ∧
      i = decodeBytes (opcodeOf i) (tail.getD 0 0) (tail.getD 1 0) ∧ rest = tail.drop (instrLength table i - 1) := by
  cases bytes with
  | nil => cases h
  | cons op tail =>
    by_cases enough : opcodeLength table op - 1 ≤ tail.length
    · rw [decode_of_enough enough] at h
      cases h
      rw [← opcodeLength_eq_instrLength, opcodeOf_decodeBytes]
      exact ⟨tail, rfl, enough, rfl, rfl⟩
    · rw [decode, if_neg enough] at h
      cases h

/-- Settles O1: the bytes after the opcode are as many as the decoder's format asks for, so it leaves the rest over, and they begin
with the operand bytes, in which `decodeBytes_operandBytes` finds the operand. -/
theorem decodeAfterEncode : Obligations.DecodeAfterEncode := by
  intro table i rest _
  have hlen : opcodeLength table (opcodeOf i) - 1 = (encode table i).tail.length := by
    rw [opcodeLength_eq_instrLength, List.length_tail, encode_length]
  have bytes : encode table i ++ rest = opcodeOf i :: ((encode table i).tail ++ rest) := rfl
  rw [bytes, decode_of_enough (by rw [hlen, List.length_append]; exact Nat.le_add_right _ _), hlen, List.drop_left,
    encode, List.tail_cons, List.append_assoc, (decodeBytes_operandBytes i).1]

/-- Settles O2: the encoder of an assigned opcode writes the operand bytes and nothing after them, and those are the bytes that the
decoder took from the list. -/
theorem encodeAfterDecode : Obligations.EncodeAfterDecode := by
  intro table bytes rest i h assigned
  obtain ⟨tail, rfl, enough, hi, rfl⟩ := of_decode_eq_ok h
  have hlen := instrLength_of_assigned table assigned
  rw [hlen, Nat.add_sub_cancel] at enough ⊢
  have operands : operandBytes i = tail.take (operandBytes i).length := by
    conv_lhs => rw [hi, (decodeBytes_operandBytes i).2]
    have := operandBytes_length_le_two i
    match tail, (operandBytes i).length, enough, this with
    | _, 0, _, _ => rfl
    | b :: _, 1, _, _ => rfl
    | b :: c :: _, 2, _, _ => rfl
  rw [encode, hlen, Nat.add_sub_cancel, Nat.sub_self, List.replicate_zero, List.append_nil, List.cons_append]
  conv_lhs => rw [operands]
  rw [List.length_take, Nat.min_eq_left enough, List.take_append_drop]

/-- Settles O3: the instruction is the one that the three bytes decode to; `opcodeOf_decodeBytes` and `mnemonic_decodeBytes` say what
other operand bytes do not change, and the length depends on the opcode alone. -/
theorem everyOpcodeDecodes : Obligations.EveryOpcodeDecodes := by
  refine ⟨fun table op b1 b2 rest => ?decodes, by decide⟩
  have length (c1 c2 : Byte) : opcodeLength table op = instrLength table (decodeBytes op c1 c2) := by
    rw [← opcodeLength_eq_instrLength, opcodeOf_decodeBytes]
  have decodes (c1 c2 : Byte) (tail : List Byte) : decode table (op :: c1 :: c2 :: tail) =
      .ok (decodeBytes op c1 c2, (op :: c1 :: c2 :: tail).drop (instrLength table (decodeBytes op c1 c2))) := by
    have hpos := operandBytes_length_lt_instrLength table (decodeBytes op c1 c2)
    have hle := instrLength_le_three table (decodeBytes op c1 c2)
    have drop : (op :: c1 :: c2 :: tail).drop (opcodeLength table op) =
        (c1 :: c2 :: tail).drop (opcodeLength table op - 1) := by
      obtain ⟨n, hn⟩ : ∃ n, opcodeLength table op = n + 1 :=
        ⟨_, (Nat.succ_pred_eq_of_pos (by rw [length c1 c2]; omega)).symm⟩
      rw [hn]; rfl
    rw [← length, drop]
    exact decode_of_enough (by rw [length c1 c2]; simp only [List.length_cons]; omega)
  have hpos := operandBytes_length_lt_instrLength table (decodeBytes op b1 b2)
  refine ⟨decodeBytes op b1 b2, decodes b1 b2 rest, opcodeOf_decodeBytes op b1 b2, by omega, instrLength_le_three _ _, ?_,
    fun c1 c2 => ⟨decodeBytes op c1 c2, ?_, ?_, ?_⟩⟩
  · rw [← decide_eq_true_iff (p := _ = Mnemonic.unused), ← isUnusedOpcode_opcodeOf, opcodeOf_decodeBytes]
  · rw [← length b1 b2, length c1 c2]; exact decodes c1 c2 []
  · have := mnemonic_decodeBytes (decodeBytes op b1 b2) c1 c2
    rwa [opcodeOf_decodeBytes] at this
  · rw [← length, ← length]

/-- Settles O4: the decoder computed on each of the words. -/
theorem sampleWordsDecode : Obligations.SampleWordsDecode := by
  unfold Obligations.SampleWordsDecode; decide

end Sys2Proof.Proofs
end

section
/-! SUPPORT. Everything an instruction can do, said once: `Runs i` names the shared operation that `exec i` runs, with what the frames
need to know of it. A statement about every instruction splits on `Runs` and not on the 256 constructors of `Instr`. -/

namespace Sys2Proof.Proofs

open Sys2Proof.Machine Sys2Proof.Claims

/-- The state with another D. -/
def withD (d : Bool) (s : State) : State := { s with p := { s.p with d := d } }

/-- A value that does not depend on D (10_state.md R32). -/
def IgnoresD {α : Type} (v : State → α) : Prop := ∀ d s, v (withD d s) = v s

/-- What the instruction `i` runs. Beside the run stand the mnemonics it belongs to, its length, and, where the run takes values out of
the state, that D is not consulted for them. -/
inductive Runs (i : Instr) : Prop
  /-- A byte goes to A, N and Z follow it. -/
  | writeA {v : State → Byte} {n : Nat} (run : ∀ s, exec i s = .next (advance n (setStateNZ (v s) (setA (v s) s))))
      (mn : i.mnemonic ∈ [.lda, .and, .ora, .eor, .txa, .tya]) (len : (operandBytes i).length + 1 = n) (blind : IgnoresD v)
  /-- A byte goes to X, N and Z follow it. -/
  | writeX {v : State → Byte} {n : Nat} (run : ∀ s, exec i s = .next (advance n (setStateNZ (v s) (setX (v s) s))))
      (mn : i.mnemonic ∈ [.ldx, .tax, .tsx, .inx, .dex]) (len : (operandBytes i).length + 1 = n) (blind : IgnoresD v)
  /-- A byte goes to Y, N and Z follow it. -/
  | writeY {v : State → Byte} {n : Nat} (run : ∀ s, exec i s = .next (advance n (setStateNZ (v s) (setY (v s) s))))
      (mn : i.mnemonic ∈ [.ldy, .tay, .iny, .dey]) (len : (operandBytes i).length + 1 = n) (blind : IgnoresD v)
  | modifyA {f : Byte → Byte} (run : ∀ s, exec i s = .next (Machine.modifyA f s))
      (mn : i.mnemonic ∈ [.inc, .dec]) (acc : i ∈ accumulatorForms) (len : (operandBytes i).length + 1 = 1)
  | shiftA {f : Byte → Bool → CarryResult} (run : ∀ s, exec i s = .next (Machine.shiftA f s))
      (mn : i.mnemonic ∈ [.asl, .lsr, .rol, .ror]) (acc : i ∈ accumulatorForms) (len : (operandBytes i).length + 1 = 1)
  /-- `ADC` and `SBC`: the one result that D is consulted for. -/
  | arith {r : State → ArithResult} {n : Nat} (run : ∀ s, exec i s = .next (advance n (writeArith (r s) s)))
      (mn : i.mnemonic ∈ [.adc, .sbc]) (len : (operandBytes i).length + 1 = n)
  | compare {r : State → Byte} {o : Operand} (run : ∀ s, exec i s = .next (compareWith (r s) o s))
      (mn : i.mnemonic ∈ [.cmp, .cpx, .cpy]) (len : (operandBytes i).length + 1 = operandLength o) (blind : IgnoresD r)
  | bitMem {m : MemMode} (run : ∀ s, exec i s = .next (bitTestMem m s)) (mn : i.mnemonic = .bit)
      (mem : ∀ v, i ≠ .bitImm v) (len : (operandBytes i).length + 1 = modeLength m)
  | bitImm (v : Byte) (inst : i = .bitImm v)
  | store {v : State → Byte} {m : MemMode} (run : ∀ s, exec i s = .next (storeByte (v s) m s))
      (mn : i.mnemonic ∈ [.sta, .stx, .sty, .stz]) (mem : i ∉ accumulatorForms)
      (len : (operandBytes i).length + 1 = modeLength m) (blind : IgnoresD v)
  | modifyMem {f : Byte → Byte} {m : MemMode} (run : ∀ s, exec i s = .next (Machine.modifyMem f m s))
      (mn : i.mnemonic ∈ [.inc, .dec]) (mem : i ∉ accumulatorForms) (len : (operandBytes i).length + 1 = modeLength m)
  | shiftMem {f : Byte → Bool → CarryResult} {m : MemMode} (run : ∀ s, exec i s = .next (Machine.shiftMem f m s))
      (mn : i.mnemonic ∈ [.asl, .lsr, .rol, .ror]) (mem : i ∉ accumulatorForms) (len : (operandBytes i).length + 1 = modeLength m)
  | testModify {f : Byte → Byte → Byte} {m : MemMode} (run : ∀ s, exec i s = .next (Machine.testModify f m s))
      (mn : i.mnemonic ∈ [.trb, .tsb]) (mem : i ∉ accumulatorForms) (len : (operandBytes i).length + 1 = modeLength m)
  | pushReg {v : State → Byte} (run : ∀ s, exec i s = .next (advance 1 (push (v s) s)))
      (mn : i.mnemonic ∈ [.pha, .phx, .phy]) (mem : i ∉ accumulatorForms)
      (len : (operandBytes i).length + 1 = 1) (blind : IgnoresD v)
  /-- `JMP` and the branches: PC alone. -/
  | jump {target : State → Addr} (run : ∀ s, exec i s = .next (setPc (target s) s))
      (mn : i.mnemonic ∈ [.jmp, .bcc, .bcs, .beq, .bmi, .bne, .bpl, .bra, .bvc, .bvs]) (blind : IgnoresD target)
  | carry {c : Bool} (run : ∀ s, exec i s = .next (advance 1 (setFlags { s.p with c := c } s)))
      (mn : i.mnemonic ∈ [.clc, .sec]) (len : (operandBytes i).length + 1 = 1)
  | decimal {d : Bool} (run : ∀ s, exec i s = .next (advance 1 (setFlags { s.p with d := d } s)))
      (mn : i.mnemonic ∈ [.cld, .sed]) (len : (operandBytes i).length + 1 = 1)
  | interrupt {b : Bool} (run : ∀ s, exec i s = .next (advance 1 (setFlags { s.p with i := b } s)))
      (mn : i.mnemonic ∈ [.cli, .sei]) (len : (operandBytes i).length + 1 = 1)
  | clv (inst : i = .clv)
  | txs (inst : i = .txs)
  | php (inst : i = .php)
  | plp (inst : i = .plp)
  | pla (inst : i = .pla)
  | plx (inst : i = .plx)
  | ply (inst : i = .ply)
  | jsr (w : Addr) (inst : i = .jsr w)
  | rts (inst : i = .rts)
  | rti (inst : i = .rti)
  | brk (inst : i = .brk)
  | nop (inst : i = .nop)
  | unused (mn : i.mnemonic = .unused)

/-- Every instruction runs one of these: the arms of `exec`, by the operation they call. -/
theorem runs (i : Instr) : Runs i := by
  cases i with
  | ldaIndX | ldaZp | ldaImm | ldaAbs | ldaIndY | ldaInd | ldaZpX | ldaAbsY | ldaAbsX | andIndX | andZp | andImm | andAbs
  | andIndY | andInd | andZpX | andAbsY | andAbsX | oraIndX | oraZp | oraImm | oraAbs | oraIndY | oraInd | oraZpX | oraAbsY
  | oraAbsX | eorIndX | eorZp | eorImm | eorAbs | eorIndY | eorInd | eorZpX | eorAbsY | eorAbsX | txa | tya =>
    exact .writeA (fun _ => rfl) (by dsimp only [Instr.mnemonic]; decide) rfl fun _ _ => rfl
  | ldxImm | ldxZp | ldxAbs | ldxZpY | ldxAbsY | tax | tsx | inx | dex =>
    exact .writeX (fun _ => rfl) (by dsimp only [Instr.mnemonic]; decide) rfl fun _ _ => rfl
  | ldyImm | ldyZp | ldyAbs | ldyZpX | ldyAbsX | tay | iny | dey =>
    exact .writeY (fun _ => rfl) (by dsimp only [Instr.mnemonic]; decide) rfl fun _ _ => rfl
  | incA | decA =>
    exact .modifyA (fun _ => rfl) (by dsimp only [Instr.mnemonic]; decide) (by decide) rfl
  | aslA | lsrA | rolA | rorA =>
    exact .shiftA (fun _ => rfl) (by dsimp only [Instr.mnemonic]; decide) (by decide) rfl
  | adcIndX | adcZp | adcImm | adcAbs | adcIndY | adcInd | adcZpX | adcAbsY | adcAbsX | sbcIndX | sbcZp | sbcImm | sbcAbs
  | sbcIndY | sbcInd | sbcZpX | sbcAbsY | sbcAbsX =>
    exact .arith (fun _ => rfl) (by dsimp only [Instr.mnemonic]; decide) rfl
  | cmpIndX | cmpZp | cmpImm | cmpAbs | cmpIndY | cmpInd | cmpZpX | cmpAbsY | cmpAbsX | cpxImm | cpxZp | cpxAbs | cpyImm | cpyZp
  | cpyAbs =>
    exact .compare (fun _ => rfl) (by dsimp only [Instr.mnemonic]; decide) rfl fun _ _ => rfl
  | bitZp | bitAbs | bitZpX | bitAbsX =>
    exact .bitMem (fun _ => rfl) rfl (by simp) rfl
  | staIndX | staZp | staAbs | staIndY | staInd | staZpX | staAbsY | staAbsX | stxZp | stxAbs | stxZpY | styZp | styAbs | styZpX
  | stzZp | stzZpX | stzAbs | stzAbsX =>
    exact .store (fun _ => rfl) (by dsimp only [Instr.mnemonic]; decide) (by simp [accumulatorForms]) rfl fun _ _ => rfl
  | incZp | incAbs | incZpX | incAbsX | decZp | decAbs | decZpX | decAbsX =>
    exact .modifyMem (fun _ => rfl) (by dsimp only [Instr.mnemonic]; decide) (by simp [accumulatorForms]) rfl
  | aslZp | aslAbs | aslZpX | aslAbsX | lsrZp | lsrAbs | lsrZpX | lsrAbsX | rolZp | rolAbs | rolZpX | rolAbsX | rorZp | rorAbs
  | rorZpX | rorAbsX =>
    exact .shiftMem (fun _ => rfl) (by dsimp only [Instr.mnemonic]; decide) (by simp [accumulatorForms]) rfl
  | trbZp | trbAbs | tsbZp | tsbAbs =>
    exact .testModify (fun _ => rfl) (by dsimp only [Instr.mnemonic]; decide) (by simp [accumulatorForms]) rfl
  | pha | phx | phy =>
    exact .pushReg (fun _ => rfl) (by dsimp only [Instr.mnemonic]; decide) (by simp [accumulatorForms]) rfl fun _ _ => rfl
  | jmpAbs | jmpInd | jmpIndX | bcc | bcs | beq | bmi | bne | bpl | bra | bvc | bvs =>
    exact .jump (fun _ => rfl) (by dsimp only [Instr.mnemonic]; decide) fun _ _ => rfl
  | clc | sec =>
    exact .carry (fun _ => rfl) (by dsimp only [Instr.mnemonic]; decide) rfl
  | cld | sed =>
    exact .decimal (fun _ => rfl) (by dsimp only [Instr.mnemonic]; decide) rfl
  | cli | sei =>
    exact .interrupt (fun _ => rfl) (by dsimp only [Instr.mnemonic]; decide) rfl
  | bitImm v => exact .bitImm v rfl
  | jsr w => exact .jsr w rfl
  | clv => exact .clv rfl
  | txs => exact .txs rfl
  | php => exact .php rfl
  | plp => exact .plp rfl
  | pla => exact .pla rfl
  | plx => exact .plx rfl
  | ply => exact .ply rfl
  | rts => exact .rts rfl
  | rti => exact .rti rfl
  | brk => exact .brk rfl
  | nop => exact .nop rfl
  | _ => exact .unused rfl

end Sys2Proof.Proofs
end

section
/-! SUPPORT. What an instruction and a step write (20_memory.md R51, R56, R62): a short list of bytes, written in turn, and what that
means for memory, for the device log and for the fields that nothing writes. -/

namespace Sys2Proof.Proofs

open Sys2Proof.Machine Sys2Proof.Claims

/-! ### A list of bytes written in turn -/

/-- The state after bytes are written in turn, each to its address. -/
def written (l : List (Addr × Byte)) (s : State) : State := l.foldl (fun t c => memWrite c.1 c.2 t) s

@[simp] theorem written_cfg (l : List (Addr × Byte)) (s : State) : (written l s).cfg = s.cfg := by
  induction l generalizing s with
  | nil => rfl
  | cons c l ih => exact (ih _).trans (memWrite_cfg _ _ _)

theorem written_wf (l : List (Addr × Byte)) {s : State} (h : s.mem.wf) : (written l s).mem.wf := by
  induction l generalizing s with
  | nil => exact h
  | cons c l ih => exact ih (memWrite_wf c.1 c.2 h)

/-- A byte that is not RAM keeps what memory holds there (R62). -/
theorem load_written_of_not_ram (l : List (Addr × Byte)) (s : State) {a : Addr} (h : kindOf s.cfg a ≠ .ram) :
    (written l s).mem.load a.toNat = s.mem.load a.toNat := by
  induction l generalizing s with
  | nil => rfl
  | cons c l ih =>
    have one : (memWrite c.1 c.2 s).mem.load a.toNat = s.mem.load a.toNat := by
      obtain ⟨hram, -⟩ | ⟨-, e⟩ | ⟨-, e⟩ := memWrite_cases c.1 c.2 s
      · exact load_memWrite_other _ _ fun e => h (e ▸ hram)
      · rw [e]
      · rw [e]
    exact (ih _ (by rwa [memWrite_cfg])).trans one

/-- The device log is the old one with `k` entries at most before it, each for an address of a device region (R62; log 9). -/
def DevOutGrows (k : Nat) (s t : State) : Prop :=
  ∃ new, t.devOut = new ++ s.devOut ∧ new.length ≤ k ∧ ∀ c ∈ new, ∃ a : Addr, c.1 = a.toNat ∧ kindOf s.cfg a = .io

theorem devOutGrows_memWrite (a : Addr) (v : Byte) (s : State) : DevOutGrows 1 s (memWrite a v s) := by
  obtain ⟨-, e⟩ | ⟨hio, e⟩ | ⟨-, e⟩ := memWrite_cases a v s <;> rw [e]
  · exact ⟨[], rfl, Nat.zero_le _, List.forall_mem_nil _⟩
  · exact ⟨[(a.toNat, v)], rfl, Nat.le_refl _, List.forall_mem_singleton.2 ⟨a, rfl, hio⟩⟩
  · exact ⟨[], rfl, Nat.zero_le _, List.forall_mem_nil _⟩

theorem DevOutGrows.trans {j k : Nat} {s t u : State} (h : DevOutGrows j s t) (h' : DevOutGrows k t u) (hc : t.cfg = s.cfg) :
    DevOutGrows (k + j) s u := by
  obtain ⟨new, e, hlen, hio⟩ := h
  obtain ⟨new', e', hlen', hio'⟩ := h'
  rw [hc] at hio'
  refine ⟨new' ++ new, by rw [e', e, List.append_assoc], by rw [List.length_append]; omega, ?_⟩
  exact List.forall_mem_append.2 ⟨hio', hio⟩

theorem devOutGrows_written (l : List (Addr × Byte)) (s : State) : DevOutGrows l.length s (written l s) := by
  induction l generalizing s with
  | nil => exact ⟨[], rfl, Nat.le_refl _, List.forall_mem_nil _⟩
  | cons c l ih => exact (devOutGrows_memWrite c.1 c.2 s).trans (ih _) (memWrite_cfg _ _ _)

/-- Memory, the device log and the parameters of `t` are those of `s` after the bytes of `l` are written in turn. -/
structure MemoryAfter (l : List (Addr × Byte)) (s t : State) : Prop where
  mem : t.mem = (written l s).mem
  devOut : t.devOut = (written l s).devOut
  cfg : t.cfg = s.cfg

theorem memWrite_memory_congr (a : Addr) (v : Byte) {s t : State} (hm : t.mem = s.mem) (ho : t.devOut = s.devOut)
    (hc : t.cfg = s.cfg) : (memWrite a v t).mem = (memWrite a v s).mem ∧ (memWrite a v t).devOut = (memWrite a v s).devOut := by
  unfold memWrite
  rw [hc]
  cases kindOf s.cfg a
  case ram => exact ⟨by rw [setMem_mem, setMem_mem, hm], ho⟩
  case io => exact ⟨hm, by rw [ho]⟩
  case rom => exact ⟨hm, ho⟩
  case unmapped => exact ⟨hm, ho⟩

/-- What is written depends on memory, the device log and the parameters alone. -/
theorem MemoryAfter.of_same {l : List (Addr × Byte)} {s s' t : State} (h : MemoryAfter l s' t) (hm : s'.mem = s.mem)
    (ho : s'.devOut = s.devOut) (hc : s'.cfg = s.cfg) : MemoryAfter l s t := by
  have same : (written l s').mem = (written l s).mem ∧ (written l s').devOut = (written l s).devOut := by
    clear h
    induction l generalizing s s' with
    | nil => exact ⟨hm, ho⟩
    | cons c l ih =>
      obtain ⟨hm', ho'⟩ := memWrite_memory_congr c.1 c.2 hm ho hc
      exact ih hm' ho' (by rw [memWrite_cfg, memWrite_cfg, hc])
  exact ⟨h.mem.trans same.1, h.devOut.trans same.2, h.cfg.trans hc⟩

/-! ### What an instruction writes -/

/-- The three bytes of an exception entry (60_exceptions.md R251), in the order of the pushes. -/
def entryBytes (ret : Addr) (b4 : Bool) (s : State) : List (Addr × Byte) :=
  [(stackByte s.sp, hiByte ret), (stackByte (down s.sp 1), loByte ret),
   (stackByte (down s.sp 2), statusByte s.cfg.bit5Pushed b4 s.p)]

theorem enter_memory (ret vec : Addr) (b4 : Bool) (s : State) :
    MemoryAfter (entryBytes ret b4 s) s (enter ret vec b4 s) := by
  rw [enter_eq]; exact ⟨rfl, rfl, written_cfg (entryBytes ret b4 s) s⟩

/-- The two pushes of a word (R53). -/
theorem pushWord_eq_written (w : Addr) (s : State) :
    pushWord w s = setSp (s.sp - 1 - 1) (written [(stackAddr s.sp, hiByte w), (stackAddr (s.sp - 1), loByte w)] s) := by
  simp only [pushWord, push, setSp_sp, memWrite_setSp]; rfl

/-- The fields that no instruction writes are as they were. -/
structure HiddenKept (s t : State) : Prop where
  resetReq : t.resetReq = s.resetReq
  nmiPending : t.nmiPending = s.nmiPending
  irqLine : t.irqLine = s.irqLine
  inputs : t.inputs = s.inputs
  draw : t.draw = s.draw

/-- `i` at `s` answers a next state: at most three bytes are written, none outside the stores and pushes of R56, and the hidden
inputs, the schedule and the draw index are as they were. -/
def WritesFew (i : Instr) (s : State) : Prop :=
  ∃ t l, exec i s = .next t ∧ MemoryAfter l s t ∧ HiddenKept s t ∧ l.length ≤ 3 ∧
    (i.mnemonic ∉ memoryWriters ∨ i ∈ accumulatorForms → l = [])

/-- A run that writes no byte. -/
theorem WritesFew.silent {i : Instr} {s t : State} (run : exec i s = .next t) (memory : MemoryAfter [] s t)
    (hidden : HiddenKept s t) : WritesFew i s :=
  ⟨t, [], run, memory, hidden, Nat.zero_le _, fun _ => rfl⟩

/-- A run that writes three bytes at most, of an instruction that is among the stores and pushes and no accumulator form. -/
theorem WritesFew.writer {i : Instr} {s t : State} {ms : List Mnemonic} (l : List (Addr × Byte)) (run : exec i s = .next t)
    (memory : MemoryAfter l s t) (hidden : HiddenKept s t) (few : l.length ≤ 3) (mn : i.mnemonic ∈ ms)
    (sub : ms ⊆ memoryWriters) (mem : i ∉ accumulatorForms) : WritesFew i s :=
  ⟨t, l, run, memory, hidden, few, fun h => (h.elim (fun hn => hn (sub mn)) mem).elim⟩

theorem WritesFew.oneByte {i : Instr} {s : State} {ms : List Mnemonic} {ea : Addr} {v sp : Byte} {p : Flags} {pc : Addr}
    (run : exec i s = .next { memWrite ea v s with sp := sp, p := p, pc := pc }) (mn : i.mnemonic ∈ ms)
    (sub : ms ⊆ memoryWriters) (mem : i ∉ accumulatorForms) : WritesFew i s :=
  .writer [(ea, v)] run ⟨rfl, rfl, memWrite_cfg _ _ _⟩
    ⟨memWrite_resetReq _ _ _, memWrite_nmiPending _ _ _, memWrite_irqLine _ _ _, memWrite_inputs _ _ _, memWrite_draw _ _ _⟩
    (by simp) mn sub mem

theorem exec_writesFew (i : Instr) (s : State) : WritesFew i s := by
  cases runs i with
  | writeA run | writeX run | writeY run | modifyA run | shiftA run | arith run | compare run | bitMem run | jump run
  | carry run | decimal run | interrupt run => exact .silent (run s) ⟨rfl, rfl, rfl⟩ ⟨rfl, rfl, rfl, rfl, rfl⟩
  | bitImm _ inst | clv inst | txs inst | plp inst | pla inst | plx inst | ply inst | rts inst | rti inst | nop inst =>
    subst inst; exact .silent rfl ⟨rfl, rfl, rfl⟩ ⟨rfl, rfl, rfl, rfl, rfl⟩
  | unused mn => exact .silent (exec_of_mnemonic_unused mn s) ⟨rfl, rfl, rfl⟩ ⟨rfl, rfl, rfl, rfl, rfl⟩
  | store run mn mem => exact .oneByte ((run s).trans (congrArg _ (storeByte_eq _ _ _))) mn (by decide) mem
  | modifyMem run mn mem => exact .oneByte ((run s).trans (congrArg _ (modifyMem_eq _ _ _))) mn (by decide) mem
  | shiftMem run mn mem => exact .oneByte ((run s).trans (congrArg _ (shiftMem_eq _ _ _))) mn (by decide) mem
  | testModify run mn mem => exact .oneByte ((run s).trans (congrArg _ (testModify_eq _ _ _))) mn (by decide) mem
  | @pushReg v run mn mem => exact .oneByte (ea := stackAddr s.sp) (v := v s) (run s) mn (by decide) mem
  | php inst =>
    subst inst
    exact .oneByte (ms := [.php]) (ea := stackAddr s.sp) (exec_php s) (by decide) (by decide) (by decide)
  | jsr w inst =>
    subst inst
    refine .writer (t := callSubroutine w s) (ms := [.jsr])
      [(stackAddr s.sp, hiByte (s.pc + 2)), (stackAddr (s.sp - 1), loByte (s.pc + 2))] rfl ?memory ?hidden (by simp) (.head _)
      (by decide) (by simp [accumulatorForms])
    case memory =>
      rw [callSubroutine_eq, pushWord_eq_written]
      exact ⟨rfl, rfl, written_cfg _ _⟩
    case hidden => rw [callSubroutine_eq]; constructor <;> simp
  | brk inst =>
    subst inst
    refine .writer (t := enterBreak s) (ms := [.brk]) (entryBytes (s.pc + 2) true (setFlags (breakB s.cfg s.p) s)) rfl
      ((enter_memory _ _ _ _).of_same rfl rfl rfl) ?hidden (by simp [entryBytes]) (.head _) (by decide) (by decide)
    case hidden => constructor <;> simp [enterBreak]

/-! ### What a step writes (60_exceptions.md R246) -/

/-- A step answers a next state and writes three bytes at most: an exception entry three, a reset none, else what the instruction
writes. -/
theorem step_memory (s : State) : ∃ t l, step s = .next t ∧ MemoryAfter l (beginStep s) t ∧ l.length ≤ 3 := by
  obtain ⟨-, e⟩ | ⟨-, -, e⟩ | ⟨-, -, -, -, e⟩ | ⟨-, -, -, e⟩ := step_cases s <;> rw [e]
  · exact ⟨_, [], rfl, ⟨rfl, rfl, rfl⟩, by decide⟩
  · exact ⟨_, _, rfl, (enter_memory _ _ _ _).of_same rfl rfl rfl, by simp [entryBytes]⟩
  · exact ⟨_, _, rfl, enter_memory _ _ _ _, by simp [entryBytes]⟩
  · obtain ⟨t, l, run, memory, -, few, -⟩ := exec_writesFew (fetchInstr (beginStep s)) (beginStep s)
    exact ⟨t, l, run, memory, few⟩

/-- Settles O10: every case of a step answers a next state. -/
theorem stepAlwaysAnswersNext : Obligations.StepAlwaysAnswersNext := by
  intro s
  obtain ⟨t, _, run, -⟩ := step_memory s
  exact ⟨t, run⟩

/-- Settles O11: the environment leaves memory alone, and each byte that the step then writes keeps the canonical form. -/
theorem stepKeepsMemoryCanonical : Obligations.StepKeepsMemoryCanonical := by
  intro s t inv run
  obtain ⟨t', l, run', memory, -⟩ := step_memory s
  cases run.symm.trans run'
  have canonical : (beginStep s).mem.wf := by rw [beginStep_mem]; exact inv
  unfold Safety.Inv
  rw [memory.mem]
  exact written_wf l canonical

/-- Settles O14: the bytes a step writes change RAM alone and the device log by device addresses alone. -/
theorem stepKeepsParametersAndRom : Obligations.StepKeepsParametersAndRom := by
  intro s
  obtain ⟨t, l, run, memory, few⟩ := step_memory s
  have hcfg : (beginStep s).cfg = s.cfg := beginStep_cfg s
  refine ⟨t, run, memory.cfg.trans hcfg, fun a ha => ?rom, ?log⟩
  case rom => rw [memory.mem, load_written_of_not_ram l _ (hcfg ▸ ha), beginStep_mem]
  case log =>
    obtain ⟨new, e, hlen, hio⟩ := devOutGrows_written l (beginStep s)
    rw [beginStep_devOut] at e
    exact ⟨new, memory.devOut.trans e, hlen.trans few, hcfg ▸ hio⟩

/-- Settles O12: nothing is listed in the memory of the reset state. -/
theorem resetStateMeetsInvariant : Obligations.ResetStateMeetsInvariant := Memory.empty_wf

/-- Settles O52: an instruction outside the list writes no byte, and a read looks at nothing that it changes. -/
theorem memoryWrittenOnlyByStoresAndPushes : Obligations.MemoryWrittenOnlyByStoresAndPushes := by
  intro i s
  obtain ⟨t, l, run, memory, hidden, -, none⟩ := exec_writesFew i s
  refine ⟨t, run, fun h => ?_⟩
  cases none h
  exact ⟨memory.mem, memory.devOut, fun use a => memRead_congr use a memory.cfg memory.mem hidden.draw⟩

/-- Settles O54. -/
theorem instructionsLeaveHiddenStateAlone : Obligations.InstructionsLeaveHiddenStateAlone := by
  intro i s
  obtain ⟨t, l, run, memory, hidden, -⟩ := exec_writesFew i s
  exact ⟨t, run, hidden.resetReq, hidden.nmiPending, hidden.irqLine, memory.cfg, hidden.inputs, hidden.draw⟩

end Sys2Proof.Proofs
end

section
/-! SUPPORT. Which instructions write which registers and flags, where PC goes, and what D can influence (10_state.md R20, R26, R32,
R36): each by the cases of `Runs`. -/

namespace Sys2Proof.Proofs

open Sys2Proof.Machine Sys2Proof.Claims

/-! ### Mnemonics on a list -/

/-- A hypothesis that leaves a list of mnemonics out says nothing about one that is on a part of it. -/
theorem outside {m : Mnemonic} {ms all : List Mnemonic} {P : Prop} (mn : m ∈ ms) (sub : ms ⊆ all) (h : m ∉ all) : P :=
  absurd (sub mn) h

/-- The same where `BIT #` is left out besides (R36). -/
theorem outsideBit {i : Instr} {ms all : List Mnemonic} {P : Prop} (mn : i.mnemonic ∈ ms) (sub : ms ⊆ all) (noBit : .bit ∉ ms)
    (h : i.mnemonic ∉ all ∨ ∃ v, i = .bitImm v) : P := by
  obtain h | ⟨v, rfl⟩ := h
  · exact outside mn sub h
  · exact absurd mn noBit

/-! ### Registers (R20) -/

/-- What R20 allows the instruction `i` to write of A, X, Y and S. -/
def RegistersAsListed (i : Instr) (s t : State) : Prop :=
  (i.mnemonic ∉ [.adc, .and, .eor, .lda, .ora, .pla, .sbc, .txa, .tya] → i ∉ accumulatorForms → t.a = s.a) ∧
  (i.mnemonic ∉ [.dex, .inx, .ldx, .plx, .tax, .tsx] → t.x = s.x) ∧
  (i.mnemonic ∉ [.dey, .iny, .ldy, .ply, .tay] → t.y = s.y) ∧
  (i.mnemonic ∉ [.txs, .pha, .php, .phx, .phy, .pla, .plp, .plx, .ply, .jsr, .rts, .rti, .brk] → t.sp = s.sp)

theorem RegistersAsListed.of_kept {i : Instr} {s t : State} (a : t.a = s.a) (x : t.x = s.x) (y : t.y = s.y)
    (sp : t.sp = s.sp) : RegistersAsListed i s t :=
  ⟨fun _ _ => a, fun _ => x, fun _ => y, fun _ => sp⟩

/-- A write of one byte elsewhere keeps the four registers. -/
theorem RegistersAsListed.of_memWrite (i : Instr) (s : State) (ea : Addr) (v : Byte) (p : Flags) (pc : Addr) :
    RegistersAsListed i s { memWrite ea v s with p := p, pc := pc } :=
  .of_kept (memWrite_a _ _ _) (memWrite_x _ _ _) (memWrite_y _ _ _) (memWrite_sp _ _ _)

/-- An instruction that writes S alone of the four, and that R20 lists for it. -/
theorem RegistersAsListed.of_sp {i : Instr} {s t : State} {ms : List Mnemonic} (mn : i.mnemonic ∈ ms)
    (sub : ms ⊆ [.txs, .pha, .php, .phx, .phy, .pla, .plp, .plx, .ply, .jsr, .rts, .rti, .brk])
    (a : t.a = s.a) (x : t.x = s.x) (y : t.y = s.y) : RegistersAsListed i s t :=
  ⟨fun _ _ => a, fun _ => x, fun _ => y, outside mn sub⟩

theorem exec_registersAsListed (i : Instr) (s : State) : ∃ t, exec i s = .next t ∧ RegistersAsListed i s t := by
  cases runs i with
  | compare run | bitMem run | jump run | carry run | decimal run | interrupt run =>
    exact ⟨_, run s, .of_kept rfl rfl rfl rfl⟩
  | bitImm _ inst | clv inst | nop inst => subst inst; exact ⟨_, rfl, .of_kept rfl rfl rfl rfl⟩
  | unused mn => exact ⟨_, exec_of_mnemonic_unused mn s, .of_kept rfl rfl rfl rfl⟩
  | store run => exact ⟨_, run s, storeByte_eq _ _ s ▸ .of_memWrite i s _ _ _ _⟩
  | modifyMem run => exact ⟨_, run s, modifyMem_eq _ _ s ▸ .of_memWrite i s _ _ _ _⟩
  | shiftMem run => exact ⟨_, run s, shiftMem_eq _ _ s ▸ .of_memWrite i s _ _ _ _⟩
  | testModify run => exact ⟨_, run s, testModify_eq _ _ s ▸ .of_memWrite i s _ _ _ _⟩
  | writeA run mn => exact ⟨_, run s, fun h _ => outside mn (by decide) h, fun _ => rfl, fun _ => rfl, fun _ => rfl⟩
  | arith run mn => exact ⟨_, run s, fun h _ => outside mn (by decide) h, fun _ => rfl, fun _ => rfl, fun _ => rfl⟩
  | modifyA run _ acc | shiftA run _ acc =>
    exact ⟨_, run s, fun _ h => absurd acc h, fun _ => rfl, fun _ => rfl, fun _ => rfl⟩
  | writeX run mn => exact ⟨_, run s, fun _ _ => rfl, outside mn (by decide), fun _ => rfl, fun _ => rfl⟩
  | writeY run mn => exact ⟨_, run s, fun _ _ => rfl, fun _ => rfl, outside mn (by decide), fun _ => rfl⟩
  | pushReg run mn => exact ⟨_, run s, .of_sp mn (by decide) (by simp) (by simp) (by simp)⟩
  | txs inst | plp inst | rts inst | rti inst =>
    subst inst; exact ⟨_, rfl, .of_sp (List.mem_singleton_self _) (by decide) rfl rfl rfl⟩
  | php inst =>
    subst inst
    exact ⟨_, exec_php s, .of_sp (List.mem_singleton_self _) (by decide) (by simp) (by simp) (by simp)⟩
  | brk inst =>
    subst inst
    exact ⟨_, exec_brk s, .of_sp (List.mem_singleton_self _) (by decide) (by simp) (by simp) (by simp)⟩
  | jsr w inst =>
    subst inst
    exact ⟨callSubroutine w s, rfl, .of_sp (ms := [.jsr]) (.head _) (by decide)
      (pushWord_a _ _) (pushWord_x _ _) (pushWord_y _ _)⟩
  | pla inst =>
    subst inst
    exact ⟨_, rfl, fun h => absurd (by decide) h, fun _ => rfl, fun _ => rfl, fun h => absurd (by decide) h⟩
  | plx inst =>
    subst inst
    exact ⟨_, rfl, fun _ _ => rfl, fun h => absurd (by decide) h, fun _ => rfl, fun h => absurd (by decide) h⟩
  | ply inst =>
    subst inst
    exact ⟨_, rfl, fun _ _ => rfl, fun _ => rfl, fun h => absurd (by decide) h, fun h => absurd (by decide) h⟩

/-- Settles O50: most runs write none of the four registers, the others those that R20 lists for the mnemonic. -/
theorem registersWrittenOnlyByTheirInstructions : Obligations.RegistersWrittenOnlyByTheirInstructions :=
  exec_registersAsListed

/-! ### Flags (R36) -/

/-- What R36 allows the instruction `i` to write of the flags. -/
def FlagsAsListed (i : Instr) (s t : State) : Prop :=
  (i.mnemonic ∉ writersOfN ∨ (∃ v, i = .bitImm v) → t.p.n = s.p.n) ∧
  (i.mnemonic ∉ [.adc, .sbc, .bit, .clv, .plp, .rti] ∨ (∃ v, i = .bitImm v) → t.p.v = s.p.v) ∧
  (i.mnemonic ∉ [.plp, .rti, .brk] ∨ s.cfg.bModel = .phantom → t.p.b = s.p.b) ∧
  (i.mnemonic ∉ [.cld, .sed, .plp, .rti, .brk] → t.p.d = s.p.d) ∧
  (i.mnemonic ∉ [.cli, .sei, .plp, .rti, .brk] → t.p.i = s.p.i) ∧
  (i.mnemonic ∉ writersOfN → i.mnemonic ∉ [.trb, .tsb] → t.p.z = s.p.z) ∧
  (i.mnemonic ∉ [.adc, .sbc, .asl, .lsr, .rol, .ror, .cmp, .cpx, .cpy, .clc, .sec, .plp, .rti] → t.p.c = s.p.c)

theorem FlagsAsListed.of_kept {i : Instr} {s t : State} (h : t.p = s.p) : FlagsAsListed i s t := by
  unfold FlagsAsListed
  rw [h]
  exact ⟨fun _ => rfl, fun _ => rfl, fun _ => rfl, fun _ => rfl, fun _ => rfl, fun _ _ => rfl, fun _ => rfl⟩

/-- A writer of N and Z (`BIT` is another matter) that leaves the other flags alone. -/
theorem FlagsAsListed.of_setNZ {i : Instr} {s t : State} {ms : List Mnemonic} {v : Byte} (h : t.p = setNZ v s.p)
    (mn : i.mnemonic ∈ ms) (sub : ms ⊆ writersOfN) (noBit : .bit ∉ ms) : FlagsAsListed i s t := by
  unfold FlagsAsListed
  rw [h]
  exact ⟨outsideBit mn sub noBit, fun _ => rfl, fun _ => rfl, fun _ => rfl, fun _ => rfl, fun hn _ => outside mn sub hn,
    fun _ => rfl⟩

/-- The same of a writer of C besides. -/
theorem FlagsAsListed.of_carry {i : Instr} {s t : State} {ms : List Mnemonic} {n z c : Bool}
    (h : t.p = { s.p with n := n, z := z, c := c }) (mn : i.mnemonic ∈ ms) (sub : ms ⊆ writersOfN) (noBit : .bit ∉ ms)
    (subC : ms ⊆ [.adc, .sbc, .asl, .lsr, .rol, .ror, .cmp, .cpx, .cpy, .clc, .sec, .plp, .rti]) : FlagsAsListed i s t := by
  unfold FlagsAsListed
  rw [h]
  exact ⟨outsideBit mn sub noBit, fun _ => rfl, fun _ => rfl, fun _ => rfl, fun _ => rfl, fun hn _ => outside mn sub hn,
    outside mn subC⟩

/-- A pull of the status byte: every flag, but B under B_MODEL = phantom (43_stack.md R152). -/
theorem FlagsAsListed.of_loadP {i : Instr} {s t : State} {b : Byte} (h : t.p = loadP s.cfg b s.p)
    (mn : i.mnemonic ∈ [.plp, .rti]) : FlagsAsListed i s t := by
  unfold FlagsAsListed
  rw [h]
  refine ⟨outsideBit mn (by decide) (by decide), outsideBit mn (by decide) (by decide), ?b, outside mn (by decide),
    outside mn (by decide), fun hn _ => outside mn (by decide) hn, outside mn (by decide)⟩
  case b =>
    rintro (hn | phantom)
    · exact outside mn (by decide) hn
    · rw [loadP, phantom]; rfl

theorem exec_flagsAsListed (i : Instr) (s : State) : ∃ t, exec i s = .next t ∧ FlagsAsListed i s t := by
  cases runs i with
  | jump run => exact ⟨_, run s, .of_kept rfl⟩
  | txs inst | rts inst | nop inst => subst inst; exact ⟨_, rfl, .of_kept rfl⟩
  | unused mn => exact ⟨_, exec_of_mnemonic_unused mn s, .of_kept rfl⟩
  | store run => exact ⟨_, run s, .of_kept (by simp [storeByte_eq])⟩
  | pushReg run => exact ⟨_, run s, .of_kept (by simp)⟩
  | php inst => subst inst; exact ⟨_, exec_php s, .of_kept (by simp)⟩
  | jsr w inst => subst inst; exact ⟨callSubroutine w s, rfl, .of_kept (pushWord_p _ _)⟩
  | writeA run mn | writeX run mn | writeY run mn | modifyA run mn =>
    exact ⟨_, run s, .of_setNZ rfl mn (by decide) (by decide)⟩
  | pla inst | plx inst | ply inst =>
    subst inst; exact ⟨_, rfl, .of_setNZ rfl (List.mem_singleton_self _) (by decide) (by decide)⟩
  | modifyMem run mn => exact ⟨_, run s, modifyMem_eq _ _ s ▸ .of_setNZ rfl mn (by decide) (by decide)⟩
  | shiftA run mn | compare run mn => exact ⟨_, run s, .of_carry rfl mn (by decide) (by decide) (by decide)⟩
  | shiftMem run mn => exact ⟨_, run s, shiftMem_eq _ _ s ▸ .of_carry rfl mn (by decide) (by decide) (by decide)⟩
  | plp inst | rti inst => subst inst; exact ⟨_, rfl, .of_loadP rfl (by decide)⟩
  | arith run mn =>
    exact ⟨_, run s, outsideBit mn (by decide) (by decide), outsideBit mn (by decide) (by decide), fun _ => rfl, fun _ => rfl,
      fun _ => rfl, fun hn _ => outside mn (by decide) hn, outside mn (by decide)⟩
  | bitMem run mn mem =>
    have onMemory {all : List Mnemonic} {P : Prop} (hall : .bit ∈ all) : (i.mnemonic ∉ all ∨ ∃ v, i = .bitImm v) → P := by
      rintro (hn | ⟨v, e⟩)
      · exact absurd (mn ▸ hall) hn
      · exact absurd e (mem v)
    exact ⟨_, run s, onMemory (by decide), onMemory (by decide), fun _ => rfl, fun _ => rfl, fun _ => rfl,
      fun hn _ => absurd (mn ▸ by decide) hn, fun _ => rfl⟩
  | bitImm v inst =>
    subst inst
    exact ⟨_, exec_bitImm v s, fun _ => rfl, fun _ => rfl, fun _ => rfl, fun _ => rfl, fun _ => rfl,
      fun hn _ => outside (ms := [.bit]) (.head _) (by decide) hn, fun _ => rfl⟩
  | testModify run mn =>
    refine ⟨_, run s, ?_⟩
    rw [testModify_eq]
    exact ⟨fun _ => rfl, fun _ => rfl, fun _ => rfl, fun _ => rfl, fun _ => rfl, fun _ => outside mn (by decide), fun _ => rfl⟩
  | carry run mn =>
    exact ⟨_, run s, fun _ => rfl, fun _ => rfl, fun _ => rfl, fun _ => rfl, fun _ => rfl, fun _ _ => rfl,
      outside mn (by decide)⟩
  | decimal run mn =>
    exact ⟨_, run s, fun _ => rfl, fun _ => rfl, fun _ => rfl, outside mn (by decide), fun _ => rfl, fun _ _ => rfl,
      fun _ => rfl⟩
  | interrupt run mn =>
    exact ⟨_, run s, fun _ => rfl, fun _ => rfl, fun _ => rfl, fun _ => rfl, outside mn (by decide), fun _ _ => rfl,
      fun _ => rfl⟩
  | clv inst =>
    subst inst
    exact ⟨_, rfl, fun _ => rfl, outsideBit (List.mem_singleton_self _) (by decide) (by decide), fun _ => rfl, fun _ => rfl,
      fun _ => rfl, fun _ _ => rfl, fun _ => rfl⟩
  | brk inst =>
    subst inst
    refine ⟨_, exec_brk s, ?_⟩
    unfold FlagsAsListed
    rw [enter_p, setFlags_p, breakB_eq]
    refine ⟨fun _ => rfl, fun _ => rfl, ?b, fun h => absurd (by decide) h, fun h => absurd (by decide) h, fun _ _ => rfl,
      fun _ => rfl⟩
    case b =>
      rintro (hn | phantom)
      · exact absurd (by decide) hn
      · simp [phantom]

/-- Settles O51: each run leaves a flag alone or has a mnemonic that R36 lists for it. -/
theorem flagsWrittenOnlyAsListed : Obligations.FlagsWrittenOnlyAsListed := exec_flagsAsListed

/-! ### PC (R26) -/

/-- PC has advanced by the length of an assigned instruction, in the words of the statement. -/
theorem pc_eq_pcAfter_encode {i : Instr} {s : State} {pc : Addr} {ms : List Mnemonic} {n : Nat} (mn : i.mnemonic ∈ ms)
    (assigned : .unused ∉ ms) (len : (operandBytes i).length + 1 = n) (h : pc = s.pc + BitVec.ofNat 16 n) :
    pc = pcAfter s (encode s.cfg.nopLen i).length := by
  have hassigned : isUnusedOpcode (opcodeOf i) = false := by
    rw [isUnusedOpcode_opcodeOf, decide_eq_false_iff_not]
    exact fun e => assigned (e ▸ mn)
  rw [h, encode_length, instrLength_of_assigned _ hassigned, len, pc_add_eq_pcAfter]

theorem exec_pc (i : Instr) (s : State) :
    ∃ t, exec i s = .next t ∧ (i.mnemonic ∉ controlTransfers → t.pc = pcAfter s (encode s.cfg.nopLen i).length) := by
  cases runs i with
  | jump run mn => exact ⟨_, run s, outside mn (by decide)⟩
  | rts inst | rti inst | brk inst => subst inst; exact ⟨_, rfl, fun h => absurd (by decide) h⟩
  | jsr w inst => subst inst; exact ⟨_, rfl, outside (ms := [.jsr]) (.head _) (by decide)⟩
  | writeA run mn len | writeX run mn len | writeY run mn len | modifyA run mn _ len | shiftA run mn _ len | arith run mn len
  | compare run mn len | carry run mn len | decimal run mn len | interrupt run mn len =>
    exact ⟨_, run s, fun _ => pc_eq_pcAfter_encode mn (by decide) len rfl⟩
  | bitMem run mn _ len =>
    exact ⟨_, run s, fun _ => pc_eq_pcAfter_encode (List.mem_singleton.2 mn) (by decide) len rfl⟩
  | bitImm v inst =>
    subst inst
    exact ⟨_, exec_bitImm v s, fun _ => pc_eq_pcAfter_encode (ms := [.bit]) (.head _) (by decide) rfl rfl⟩
  | store run mn _ len => exact ⟨_, run s, fun _ => pc_eq_pcAfter_encode mn (by decide) len (by rw [storeByte_eq])⟩
  | modifyMem run mn _ len => exact ⟨_, run s, fun _ => pc_eq_pcAfter_encode mn (by decide) len (by rw [modifyMem_eq])⟩
  | shiftMem run mn _ len => exact ⟨_, run s, fun _ => pc_eq_pcAfter_encode mn (by decide) len (by rw [shiftMem_eq])⟩
  | testModify run mn _ len => exact ⟨_, run s, fun _ => pc_eq_pcAfter_encode mn (by decide) len (by rw [testModify_eq])⟩
  | pushReg run mn _ len => exact ⟨_, run s, fun _ => pc_eq_pcAfter_encode mn (by decide) len (by simp)⟩
  | php inst =>
    subst inst
    exact ⟨_, exec_php s, fun _ => pc_eq_pcAfter_encode (n := 1) (List.mem_singleton_self _) (by decide) rfl (by simp)⟩
  | clv inst | txs inst | plp inst | pla inst | plx inst | ply inst | nop inst =>
    subst inst
    exact ⟨_, rfl, fun _ => pc_eq_pcAfter_encode (List.mem_singleton_self _) (by decide) rfl rfl⟩
  | unused mn =>
    have hunused : isUnusedOpcode (opcodeOf i) = true := by rw [isUnusedOpcode_opcodeOf, mn]; rfl
    refine ⟨_, exec_of_mnemonic_unused mn s, fun _ => ?_⟩
    rw [unusedNop_eq, encode_length, instrLength, if_pos hunused, pc_add_eq_pcAfter]

/-- Settles O53: an instruction that is no transfer finishes with `advance`, by the length that `Runs` ties to its operand. -/
theorem pcAdvancesByTheLength : Obligations.PcAdvancesByTheLength := exec_pc

/-! ### D (R32) -/

/-- A write does not consult D. -/
theorem memWrite_withD (a : Addr) (v : Byte) (d : Bool) (s : State) :
    memWrite a v (withD d s) = withD d (memWrite a v s) := by
  change memWrite a v (setFlags _ s) = setFlags _ (memWrite a v s)
  rw [memWrite_setFlags, memWrite_p]

/-- No address mode consults D. -/
theorem effAddr_withD (m : MemMode) : IgnoresD (effAddr m) := by
  intro d s; cases m <;> rfl

theorem push_withD (v : Byte) (d : Bool) (s : State) : push v (withD d s) = withD d (push v s) := by
  unfold push
  rw [memWrite_withD]
  rfl

theorem pushWord_withD (w : Addr) (d : Bool) (s : State) : pushWord w (withD d s) = withD d (pushWord w s) := by
  unfold pushWord
  rw [push_withD, push_withD]

theorem operandByte_withD (o : Operand) : IgnoresD (operandByte o) := by
  intro d s
  cases o with
  | imm v => rfl
  | mem m =>
    change memRead .data (effAddr m (withD d s)) (withD d s) = memRead .data (effAddr m s) s
    rw [effAddr_withD]
    rfl

/-- How the instruction `i` at `s` depends on D: the same next state but for D itself, or altogether the same where it overwrites
D; `ADC`, `SBC` and the instructions that push the status byte are left out. -/
def UsesD (i : Instr) (d : Bool) (s : State) : Prop :=
  ∃ t, exec i s = .next t ∧
    (i.mnemonic ∉ [.adc, .sbc, .php, .brk, .cld, .sed, .plp, .rti] → exec i (withD d s) = .next (withD d t)) ∧
    (i.mnemonic ∈ [.cld, .sed, .plp, .rti] → exec i (withD d s) = .next t)

theorem UsesD.keeps {i : Instr} {d : Bool} {s t : State} {ms : List Mnemonic} (run : exec i s = .next t)
    (mn : i.mnemonic ∈ ms) (apart : ∀ m ∈ ms, m ∉ [.cld, .sed, .plp, .rti])
    (runD : exec i (withD d s) = .next (withD d t)) :
    UsesD i d s :=
  ⟨t, run, fun _ => runD, fun h => absurd h (apart _ mn)⟩

theorem UsesD.overwrites {i : Instr} {d : Bool} {s t : State} {ms : List Mnemonic} (run : exec i s = .next t)
    (mn : i.mnemonic ∈ ms) (sub : ms ⊆ [.adc, .sbc, .php, .brk, .cld, .sed, .plp, .rti])
    (runD : exec i (withD d s) = .next t) :
    UsesD i d s :=
  ⟨t, run, outside mn sub, fun _ => runD⟩

theorem UsesD.leftOut {i : Instr} {d : Bool} {s t : State} {ms : List Mnemonic} (run : exec i s = .next t)
    (mn : i.mnemonic ∈ ms) (sub : ms ⊆ [.adc, .sbc, .php, .brk]) : UsesD i d s :=
  ⟨t, run, outside mn fun _ h => (by decide : [Mnemonic.adc, .sbc, .php, .brk] ⊆ _) (sub h),
    fun h => absurd h ((by decide : ∀ m ∈ [Mnemonic.adc, .sbc, .php, .brk], m ∉ [Mnemonic.cld, .sed, .plp, .rti]) _ (sub mn))⟩

theorem exec_usesD (i : Instr) (d : Bool) (s : State) : UsesD i d s := by
  cases runs i with
  | arith run mn => exact .leftOut (run s) mn (by decide)
  | php inst | brk inst => subst inst; exact .leftOut rfl (List.mem_singleton_self _) (by decide)
  | decimal run mn => exact .overwrites (run s) mn (by decide) (run _)
  | plp inst | rti inst => subst inst; exact .overwrites rfl (List.mem_singleton_self _) (by decide) rfl
  | writeA run mn _ blind | writeX run mn _ blind | writeY run mn _ blind =>
    exact .keeps (run s) mn (by decide) (by rw [run, blind]; rfl)
  | modifyA run mn | shiftA run mn | carry run mn | interrupt run mn => exact .keeps (run s) mn (by decide) (run _)
  | jump run mn blind => exact .keeps (run s) mn (by decide) (by rw [run, blind]; rfl)
  | compare run mn _ blind => exact .keeps (run s) mn (by decide) (by rw [run, blind, compareWith_eq, operandByte_withD]; rfl)
  | bitMem run mn =>
    exact .keeps (run s) (List.mem_singleton.2 mn) (by decide) (by rw [run, bitTestMem_eq, effAddr_withD]; rfl)
  | bitImm v inst => subst inst; exact .keeps (ms := [.bit]) (exec_bitImm v s) (.head _) (by decide) rfl
  | store run mn _ _ blind =>
    exact .keeps (run s) mn (by decide) (by rw [run, blind, storeByte_eq, storeByte_eq, effAddr_withD, memWrite_withD]; rfl)
  | modifyMem run mn =>
    exact .keeps (run s) mn (by decide) (by rw [run, modifyMem_eq, modifyMem_eq, effAddr_withD, memWrite_withD]; rfl)
  | shiftMem run mn =>
    exact .keeps (run s) mn (by decide) (by rw [run, shiftMem_eq, shiftMem_eq, effAddr_withD, memWrite_withD]; rfl)
  | testModify run mn =>
    exact .keeps (run s) mn (by decide) (by rw [run, testModify_eq, testModify_eq, effAddr_withD, memWrite_withD]; rfl)
  | pushReg run mn _ _ blind => exact .keeps (run s) mn (by decide) (by rw [run, blind, push_withD]; rfl)
  | jsr w inst =>
    subst inst
    refine .keeps (ms := [.jsr]) (t := callSubroutine w s) rfl (.head _) (by decide) ?_
    change Host.Outcome.next (callSubroutine w (withD d s)) = _
    rw [callSubroutine_eq, callSubroutine_eq, pushWord_withD]
    rfl
  | clv inst | txs inst | pla inst | plx inst | ply inst | rts inst | nop inst =>
    subst inst; exact .keeps rfl (List.mem_singleton_self _) (by decide) rfl
  | unused mn =>
    exact .keeps (exec_of_mnemonic_unused mn s) (List.mem_singleton.2 mn) (by decide) (exec_of_mnemonic_unused mn _)

/-- Settles O55: `exec_usesD` without the instructions it leaves out. -/
theorem decimalFlagReadOnlyByAdcAndSbc : Obligations.DecimalFlagReadOnlyByAdcAndSbc := by
  constructor
  · intro i s d h
    obtain ⟨t, run, keeps, -⟩ := exec_usesD i d s
    exact ⟨t, run, keeps h⟩
  · intro i s d h
    obtain ⟨t, run, -, overwrites⟩ := exec_usesD i d s
    exact ⟨t, run, overwrites h⟩

end Sys2Proof.Proofs
end

section
/-! SUPPORT. The step (60_exceptions.md R246, 10_state.md R38, R39): what the environment does, and which event or instruction is
taken. -/

namespace Sys2Proof.Proofs

open Sys2Proof.Machine Sys2Proof.Claims

/-! ### The environment (R38, R39; R245, R249) -/

/-- The level that an input drives on the IRQ line. -/
def irqLevel (e : Input) : Option Bool := match e with | .irq l => some l | _ => none

/-- The reset request that an input makes or withdraws. -/
def resetLevel (e : Input) : Option Bool := match e with | .reset r => some r | _ => none

/-- The last level driven, or the level of before. -/
def lastDriven (level : Input → Option Bool) (l : List Input) (old : Bool) : Bool :=
  ((l.filterMap level).getLast?).getD old

theorem lastDriven_nil (level : Input → Option Bool) (old : Bool) : lastDriven level [] old = old := rfl

theorem lastDriven_cons (level : Input → Option Bool) (e : Input) (l : List Input) (old : Bool) :
    lastDriven level (e :: l) old = lastDriven level l ((level e).getD old) := by
  unfold lastDriven
  cases h : level e <;> simp [h, List.getLast?_cons]

/-- The state after a list of inputs, the last one of a kind deciding. -/
def afterInputs (l : List Input) (s : State) : State :=
  { s with
    nmiPending := s.nmiPending || decide (Input.nmi ∈ l)
    irqLine := lastDriven irqLevel l s.irqLine
    resetReq := lastDriven resetLevel l s.resetReq
    p := { s.p with v := s.p.v || (s.cfg.soConnected && decide (Input.setOverflow ∈ l)) } }

/-- The inputs of a boundary act in turn; each leaves what the others of its kind decide to them. -/
theorem foldl_applyInput_eq (l : List Input) (s : State) : l.foldl applyInput s = afterInputs l s := by
  induction l generalizing s with
  | nil => simp [afterInputs, lastDriven_nil]
  | cons e l ih =>
    rw [List.foldl_cons, ih]
    cases e with
    | reset r => simp [afterInputs, applyInput, lastDriven_cons, irqLevel, resetLevel]
    | nmi => simp [afterInputs, applyInput, lastDriven_cons, irqLevel, resetLevel]
    | irq l => simp [afterInputs, applyInput, lastDriven_cons, irqLevel, resetLevel]
    | setOverflow =>
      cases h : s.cfg.soConnected <;>
        simp [afterInputs, applyInput, lastDriven_cons, irqLevel, resetLevel, setFlags, h]

/-- Settles O6: `foldl_applyInput_eq` on the schedule's head. -/
theorem environmentActsAtTheBoundary : Obligations.EnvironmentActsAtTheBoundary := by
  refine ⟨fun s h => beginStep_quiet h, fun s now later h => ?_⟩
  rw [beginStep, h]
  exact foldl_applyInput_eq now _

/-! ### The instruction (30_encoding.md R82, R83) -/

/-- Settles O5: of the cases of a step the hypotheses leave the instruction, and the fetch reads the bytes that decode to `i`. -/
theorem stepRunsTheDecodedInstruction : Obligations.StepRunsTheDecodedInstruction := by
  intro s i rest hreset hnmi hirq hdecode _
  have fetched : fetchInstr (beginStep s) = i := by
    have h := decode_fetch hdecode
    have hpc (k : Nat) : addrMod ((beginStep s).pc.toNat + k) = (beginStep s).pc + BitVec.ofNat 16 k :=
      (pc_add_eq_pcAfter _ k).symm
    rwa [hpc, hpc] at h
  obtain ⟨h, -⟩ | ⟨-, h, -⟩ | ⟨-, -, hline, hi, -⟩ | ⟨-, -, -, run⟩ := step_cases s
  · rw [hreset] at h; cases h
  · rw [hnmi] at h; cases h
  · rw [hline, hi] at hirq; simp at hirq
  · rw [run, fetched]

/-! ### Reset, NMI and IRQ (R244, R251 to R253) -/

/-- Settles O7: `takeReset`, field by field. -/
theorem resetIsTakenFirst : Obligations.ResetIsTakenFirst := by
  intro s hreset
  obtain ⟨-, run⟩ | ⟨h, -⟩ | ⟨h, -⟩ | ⟨h, -⟩ := step_cases s
  · refine ⟨_, run, vectorWord_eq_vector _ _, rfl, fun i hi => ?_, rfl, rfl, rfl, rfl, rfl, rfl, rfl, rfl⟩
    change resetI (beginStep s).cfg (beginStep s).draw (beginStep s).p.i = i
    rw [resetI, hi]
  all_goals rw [hreset] at h; cases h

/-- A write does not look at the NMI latch and leaves it alone. -/
theorem memWrite_nmiPending_false (a : Addr) (v : Byte) (s : State) :
    memWrite a v { s with nmiPending := false } = { memWrite a v s with nmiPending := false } := by
  unfold memWrite; cases kindOf s.cfg a <;> rfl

theorem entryWritten_nmiPending_false (ret : Addr) (b4 : Bool) (s : State) :
    entryWritten ret b4 { s with nmiPending := false } = { entryWritten ret b4 s with nmiPending := false } := by
  simp only [entryWritten, memWrite_nmiPending_false]

/-- An interrupt's entry returns to the instruction not yet executed. -/
theorem entryWritten_pc_entered (s : State) : Entered s.pc.toNat false s (entryWritten s.pc false s) := by
  have hpc : s.pc = addrMod s.pc.toNat := by simp only [addrMod]; bv_omega
  conv => arg 4; rw [hpc]
  exact entryWritten_entered _ _ _

/-- What the sequence of NMI leaves (R251, R252). -/
theorem takeNmi_eq (s : State) :
    takeNmi s = { entryWritten s.pc false s with
      sp := down s.sp 3, nmiPending := false, p := { s.p with i := true, d := false }
      pc := vector 0xFFFA (entryWritten s.pc false s) } := by
  rw [takeNmi, enterInterrupt, enter_eq, entryWritten_nmiPending_false]
  rfl

/-- What the sequence of IRQ leaves (R251, R253). -/
theorem takeIrq_eq (s : State) :
    takeIrq s = { entryWritten s.pc false s with
      sp := down s.sp 3, p := { s.p with i := true, d := false }, pc := vector 0xFFFE (entryWritten s.pc false s) } :=
  enter_eq _ _ _ _

/-- A pending NMI is taken unless a reset is. -/
theorem step_of_nmiPending {s : State} (hreset : (beginStep s).resetReq = false) (hnmi : (beginStep s).nmiPending = true) :
    step s = .next (takeNmi (beginStep s)) := by
  obtain ⟨h, -⟩ | ⟨-, -, run⟩ | ⟨-, h, -⟩ | ⟨-, h, -⟩ := step_cases s
  · rw [hreset] at h; cases h
  · exact run
  · rw [hnmi] at h; cases h
  · rw [hnmi] at h; cases h

/-- An unmasked IRQ is taken unless a reset or an NMI is. -/
theorem step_of_irq {s : State} (hreset : (beginStep s).resetReq = false) (hnmi : (beginStep s).nmiPending = false)
    (hline : (beginStep s).irqLine = true) (hi : (beginStep s).p.i = false) : step s = .next (takeIrq (beginStep s)) := by
  obtain ⟨h, -⟩ | ⟨-, h, -⟩ | ⟨-, -, -, -, run⟩ | ⟨-, -, h, -⟩ := step_cases s
  · rw [hreset] at h; cases h
  · rw [hnmi] at h; cases h
  · exact run
  · rw [hline, hi] at h; simp at h

/-- Settles O8. -/
theorem nmiEntry : Obligations.NmiEntry := by
  intro s hreset hnmi
  exact ⟨_, entryWritten_pc_entered _, by rw [step_of_nmiPending hreset hnmi, takeNmi_eq]⟩

/-- Settles O9. -/
theorem irqEntry : Obligations.IrqEntry := by
  intro s hreset hnmi hline hi
  exact ⟨_, entryWritten_pc_entered _, by rw [step_of_irq hreset hnmi hline hi, takeIrq_eq]⟩

/-- Settles O13: the fields of `State.reset`, PC by words and by numbers. -/
theorem resetStateValues : Obligations.ResetStateValues :=
  ⟨word_eq_wordOf _ _, rfl, rfl, rfl, rfl, rfl, rfl, rfl⟩

end Sys2Proof.Proofs
end

section
/-! SUPPORT. The memory map (20_memory.md R51, R62) and the address modes (40_address_modes.md R101 to R113), by words and by
numbers. -/

namespace Sys2Proof.Proofs

open Sys2Proof.Machine Sys2Proof.Claims

/-! ### MEM_MAP -/

/-- The first region that holds an address decides its kind, the others only where it does not hold it (00_scope.md R8). -/
theorem kindOf_cons {cfg : Config} {r : Region} {rest : List Region} (a : Addr) (h : cfg.memMap = r :: rest) :
    kindOf cfg a = if r.first.toNat ≤ a.toNat ∧ a.toNat ≤ r.last.toNat then r.kind
      else kindOf { cfg with memMap := rest } a := by
  unfold kindOf
  rw [h]
  by_cases holds : r.first.toNat ≤ a.toNat ∧ a.toNat ≤ r.last.toNat
  · have hr : regionHolds a r = true := by simpa [regionHolds] using holds
    rw [List.find?_cons_of_pos hr, if_pos holds]
  · have hr : ¬ regionHolds a r = true := by simpa [regionHolds] using holds
    rw [List.find?_cons_of_neg hr, if_neg holds]

/-- Settles O15: content or a free value by the kind of the address, and the kind by the first region. -/
theorem memoryMapDecidesReads : Obligations.MemoryMapDecidesReads := by
  refine ⟨fun s use a h => memRead_content use h, fun s use a h => memRead_draw use h, fun s use a m h => ?drawn,
    fun cfg a h => ?empty, fun cfg r rest a h => kindOf_cons a h⟩
  case drawn => rw [memRead_draw use h, memRead_draw (s := { s with mem := m }) use h]
  case empty => rw [kindOf, h]; rfl

/-- Settles O16. -/
theorem writeThenRead : Obligations.WriteThenRead := fun s a v => memWrite_wrote a v s

/-! ### Page zero (R101, R105 to R107, R111, R113) -/

theorem zeroPage_eq_pageZero (b : Byte) : zeroPage b = pageZero b := word_eq_wordOf b 0

theorem byte_add_eq_byteMod (b c : Byte) : b + c = byteMod (b.toNat + c.toNat) := by
  simp only [byteMod]; bv_omega

theorem memReadPointer_eq_pageZeroPointer (z : Byte) (s : State) : memReadPointer z s = pageZeroPointer z s := by
  rw [memReadPointer, word_eq_wordOf, zeroPage_eq_pageZero, zeroPage_eq_pageZero, add_one_eq_byteMod, pageZeroPointer]

/-- Settles O17. -/
theorem zeroPageAddresses : Obligations.ZeroPageAddresses := by
  refine ⟨memReadPointer_eq_pageZeroPointer, fun b s => ⟨?zp, ?zpX, ?zpY, ?indX, ?ind, ?low, rfl, rfl, rfl, rfl, rfl⟩⟩
  case zp => exact zeroPage_eq_pageZero b
  case zpX => rw [← byte_add_eq_byteMod]; exact zeroPage_eq_pageZero _
  case zpY => rw [← byte_add_eq_byteMod]; exact zeroPage_eq_pageZero _
  case indX => rw [← byte_add_eq_byteMod]; exact memReadPointer_eq_pageZeroPointer _ s
  case ind => exact memReadPointer_eq_pageZeroPointer b s
  case low =>
    have := b.isLt
    simp only [pageZero, addrMod, BitVec.toNat_ofNat]; omega

/-! ### The absolute modes, `(addr8i),Y` and the operand byte (R104, R108 to R110, R112) -/

/-- An index register added to an address, with the carry into the page and mod 65536 (decision D2, log 24). -/
theorem add_zext16_eq_addrMod (w : Addr) (b : Byte) : w + zext16 b = addrMod (w.toNat + b.toNat) := by
  simp only [zext16, addrMod]; bv_omega

/-- Settles O18. -/
theorem addressesWithCarryAndOperands : Obligations.AddressesWithCarryAndOperands := by
  refine ⟨fun w s => ⟨rfl, add_zext16_eq_addrMod w s.x, add_zext16_eq_addrMod w s.y, rfl, rfl, rfl⟩,
    fun b s => ⟨?indY, rfl⟩, fun v s => ⟨rfl, rfl⟩, fun m s => ⟨rfl, rfl⟩⟩
  case indY => rw [← memReadPointer_eq_pageZeroPointer]; exact add_zext16_eq_addrMod _ _

end Sys2Proof.Proofs
end

section
/-! SUPPORT. Jumps, calls, returns and branches (48_control_flow.md), by words and by numbers. -/

namespace Sys2Proof.Proofs

open Sys2Proof.Machine Sys2Proof.Claims

/-! ### Jumps (R200 to R202, R114, R115) -/

theorem add_one_eq_addrMod (w : Addr) : w + 1 = addrMod (w.toNat + 1) := by
  simp only [addrMod]; bv_omega

theorem indirectTarget_eq_jumpPointer (w : Addr) (s : State) : indirectTarget w s = jumpPointer w s := by
  rw [indirectTarget, memReadWord, word_eq_wordOf, add_one_eq_addrMod, jumpPointer]

theorem exec_jmpInd (w : Addr) (s : State) : exec (.jmpInd w) s = .next { s with pc := indirectTarget w s } := rfl

theorem exec_jmpIndX (w : Addr) (s : State) :
    exec (.jmpIndX w) s = .next { s with pc := indirectTarget (w + zext16 s.x) s } := rfl

/-- Settles O42. -/
theorem jumpsLoadThePc : Obligations.JumpsLoadThePc := by
  refine fun w s => ⟨⟨rfl, rfl⟩, ⟨rfl, ?ind⟩, ⟨rfl, ?indX⟩⟩
  case ind => rw [exec_jmpInd, indirectTarget_eq_jumpPointer]
  case indX => rw [exec_jmpIndX, indirectTarget_eq_jumpPointer, add_zext16_eq_addrMod]

/-! ### Subroutines (R203, R204) -/

theorem exec_jsr (w : Addr) (s : State) : exec (.jsr w) s = .next (callSubroutine w s) := rfl

theorem exec_rts (s : State) : exec .rts s = .next (returnFromSubroutine s) := rfl

/-- Settles O43: the return address is that of the third byte, its two pushes are at S and one below. -/
theorem jsrPushesReturnAddress : Obligations.JsrPushesReturnAddress := by
  intro w s
  have hret : s.pc + 2 = addrMod (s.pc.toNat + 2) := pc_add_eq_pcAfter s 2
  refine ⟨rfl, _, _, memWrite_wrote _ _ _, memWrite_wrote _ _ _, ?_⟩
  rw [exec_jsr, callSubroutine_eq, pushWord_eq_written, hret, hiByte_addrMod, loByte_addrMod, stackAddr_eq_stackByte,
    stackAddr_eq_stackByte, sub_one_eq_down s.sp, down_sub_one s.sp (by decide)]
  rfl

/-- Settles O44: the two pulls are at S moved up by 1 and by 2. -/
theorem rtsPullsReturnAddress : Obligations.RtsPullsReturnAddress := by
  intro s
  have hsp : (pulled s).sp + 1 = up s.sp 2 := by rw [pulled_sp, add_one_eq_up s.sp, up_add_one]
  have second : pullByte .pull2 (pulled s) = memRead .pull2 (stackByte (up s.sp 2)) s := by
    rw [pullByte, hsp, stackAddr_eq_stackByte, memRead_pulled]
  refine ⟨rfl, ?_⟩
  rw [exec_rts, returnFromSubroutine_eq, second, pullByte_eq, word_eq_wordOf, add_one_eq_addrMod, ← hsp, pulled_sp]

/-! ### Branches (R206 to R215, R116) -/

theorem toInt_eq_signed (b : Byte) : b.toInt = signed b := by
  rw [signed, BitVec.toInt_eq_toNat_cond]
  split <;> split <;> omega

/-- The target of a branch, with the signed displacement (R116). -/
theorem branchTarget_eq (disp : Byte) (pc : Addr) :
    branchTarget disp pc = BitVec.ofInt 16 ((pc.toNat : Int) + 2 + signed disp) := by
  rw [branchTarget, sext16, BitVec.signExtend, toInt_eq_signed, BitVec.ofInt_add, BitVec.ofInt_add, BitVec.ofInt_natCast,
    BitVec.ofNat_toNat, BitVec.setWidth_eq]
  rfl

/-- Each branch has its row's opcode and runs the common rule (R206) on its row's condition. -/
theorem branchForms_run (d : Byte) (s : State) : ∀ q ∈ branchForms d s.p, opcodeOf q.2.1 = q.1 ∧
    exec q.2.1 s = .next (branch q.2.2 d s) := by
  simp only [branchForms, List.forall_mem_cons]
  refine ⟨?bcc, ?bcs, ?beq, ?bne, ?bmi, ?bpl, ?bvc, ?bvs, ?bra, List.forall_mem_nil _⟩ <;> exact ⟨rfl, rfl⟩

/-- Settles O46. -/
theorem branchesTestOneFlag : Obligations.BranchesTestOneFlag := by
  intro d s q hq
  obtain ⟨hop, run⟩ := branchForms_run d s q hq
  have hnext : s.pc + 2 = pcAfter s 2 := pc_add_eq_pcAfter s 2
  exact ⟨hop, by rw [run, branch_eq, branchTarget_eq, hnext]⟩

end Sys2Proof.Proofs
end

section
/-! SUPPORT. The stack as a stack (43_stack.md R150, R151; 48_control_flow.md R203, R204; 60_exceptions.md R251, R255, R260): what is
pushed onto RAM is pulled again, so that a call, a `BRK` and an interrupt return to where they came from. -/

namespace Sys2Proof.Proofs

open Sys2Proof.Machine Sys2Proof.Claims

/-! ### S moved down and up again -/

@[simp] theorem down_zero (sp : Byte) : down sp 0 = sp := by
  simp only [down, byteMod]; bv_omega

/-- Pulls after pushes: S wraps both ways in page one. -/
theorem up_down (sp : Byte) {j k : Nat} (hj : j ≤ k) (hk : k ≤ 256) : up (down sp k) j = down sp (k - j) := by
  have := sp.isLt
  apply BitVec.eq_of_toNat_eq
  simp only [up, down, byteMod, BitVec.toNat_ofNat]
  omega

theorem up_down_self (sp : Byte) {k : Nat} (hk : k ≤ 256) : up (down sp k) k = sp := by
  rw [up_down sp (Nat.le_refl k) hk, Nat.sub_self, down_zero]

/-- Distinct values of S name distinct bytes of page one. -/
theorem stackByte_injective {sp sp' : Byte} (h : stackByte sp = stackByte sp') : sp = sp' := by
  simp only [stackByte, addrMod] at h; bv_omega

theorem stackByte_down_ne (sp : Byte) {j k : Nat} (hjk : j < k) (hk : k < 256) :
    stackByte (down sp j) ≠ stackByte (down sp k) := by
  intro h
  have := sp.isLt
  have e := congrArg BitVec.toNat (stackByte_injective h)
  simp only [down, byteMod, BitVec.toNat_ofNat] at e
  omega

theorem stackByte_ne_down (sp : Byte) {k : Nat} (hpos : 0 < k) (hk : k < 256) : stackByte sp ≠ stackByte (down sp k) := by
  have := stackByte_down_ne sp hpos hk
  rwa [down_zero] at this

/-- The two bytes of an address make it up again. -/
theorem wordOf_bytes (n : Nat) : wordOf (byteMod n) (byteMod (n % 65536 / 256)) = addrMod n := by
  rw [← loByte_addrMod, ← hiByte_addrMod, ← word_eq_wordOf, word_loByte_hiByte]

/-- PC advanced twice. -/
theorem addrMod_add (m n : Nat) : addrMod ((addrMod m).toNat + n) = addrMod (m + n) := by
  apply BitVec.eq_of_toNat_eq
  simp [addrMod]

/-! ### The status byte pushed and pulled (R152) -/

theorem num_le_one (c : Bool) : num c ≤ 1 := by cases c <;> decide

/-- The flags are the binary digits of the status byte. -/
theorem bit_statusByte (b5 b4 : Bool) (f : Flags) :
    bit (statusByte b5 b4 f) 7 = f.n ∧ bit (statusByte b5 b4 f) 6 = f.v ∧ bit (statusByte b5 b4 f) 4 = b4 ∧
    bit (statusByte b5 b4 f) 3 = f.d ∧ bit (statusByte b5 b4 f) 2 = f.i ∧ bit (statusByte b5 b4 f) 1 = f.z ∧
    bit (statusByte b5 b4 f) 0 = f.c := by
  have digit {m : Nat} {c : Bool} (h : m = num c) : decide (m = 1) = c := by rw [h]; cases c <;> rfl
  have hn := num_le_one f.n
  have hv := num_le_one f.v
  have h5 := num_le_one b5
  have h4 := num_le_one b4
  have hd := num_le_one f.d
  have hi := num_le_one f.i
  have hz := num_le_one f.z
  have hc := num_le_one f.c
  simp only [bit, statusByte, byteMod, BitVec.toNat_ofNat]
  refine ⟨digit ?n, digit ?v, digit ?b4, digit ?d, digit ?i, digit ?z, digit ?c⟩ <;> omega

/-- `LoadP` undoes `PushedP`: every flag comes back, B as the bit 4 that was pushed or, under B_MODEL = phantom, as it was. -/
theorem unpacked_statusByte (cfg : Config) (b5 b4 : Bool) (f g : Flags) :
    unpacked cfg (statusByte b5 b4 f) g = { f with b := if cfg.bModel = .stored then b4 else g.b } := by
  obtain ⟨hn, hv, hb, hd, hi, hz, hc⟩ := bit_statusByte b5 b4 f
  rw [unpacked, hn, hv, hb, hd, hi, hz, hc]

/-! ### A byte written to RAM -/

/-- A write to RAM changes memory alone, and the byte reads back. -/
theorem wrote_ram {ea : Addr} {v : Byte} {s t : State} (h : Wrote ea v s t) (ram : kindOf s.cfg ea = .ram) :
    t = { s with mem := t.mem } ∧ ∀ use, memRead use ea t = v := by
  obtain ⟨frame, -, onRam, -⟩ := h
  obtain ⟨hdev, hread⟩ := onRam ram
  rw [hdev] at frame
  exact ⟨frame, hread⟩

/-! ### A pull after a push (R153 to R159) -/

/-- Settles O59: the pull finds S one below the byte pushed, so it reads that byte and leaves S as it was. -/
theorem pullAfterPushReturnsTheByte : Obligations.PullAfterPushReturnsTheByte := by
  constructor
  · intro s ram q hq r hr
    obtain ⟨-, t, wrote, run⟩ := pushesOfARegister s q hq
    obtain ⟨frame, reads⟩ := wrote_ram wrote (ram s.sp)
    obtain ⟨-, pull⟩ := pullsOfARegister { t with sp := down s.sp 1, pc := pcAfter s 1 } r hr
    refine ⟨_, _, run, pull, ?_⟩
    have hsp : up (down s.sp 1) 1 = s.sp := up_down_self s.sp (by decide)
    have hread : memRead .pull1 (stackByte s.sp) { t with sp := down s.sp 1, pc := pcAfter s 1 } = q.2.2 := reads _
    have hpc : pcAfter { t with sp := down s.sp 1, pc := pcAfter s 1 } 1 = pcAfter s 2 := addrMod_add _ _
    rw [hsp, hread, hpc, frame]
  · intro s ram
    obtain ⟨-, t, wrote, run⟩ := phpPushesStatus s
    obtain ⟨frame, reads⟩ := wrote_ram wrote (ram s.sp)
    obtain ⟨-, pull⟩ := plpPullsStatus { t with sp := down s.sp 1, pc := pcAfter s 1 }
    refine ⟨_, _, run, pull, ?_⟩
    have hsp : up (down s.sp 1) 1 = s.sp := up_down_self s.sp (by decide)
    have hread : memRead .pull1 (stackByte s.sp) { t with sp := down s.sp 1, pc := pcAfter s 1 } = _ := reads _
    have hpc : pcAfter { t with sp := down s.sp 1, pc := pcAfter s 1 } 1 = pcAfter s 2 := addrMod_add _ _
    rw [hsp, hread, hpc, frame, unpacked_statusByte]
    cases s.cfg.bModel <;> rfl

/-! ### A return after a call (R203, R204) -/

/-- Settles O56: the two pulls find the return address where the pushes of `JSR` put it, high byte above low byte. -/
theorem jsrThenRtsReturns : Obligations.JsrThenRtsReturns := by
  intro w s ram
  obtain ⟨-, t1, t2, wrote1, wrote2, call⟩ := jsrPushesReturnAddress w s
  obtain ⟨frame1, high⟩ := wrote_ram wrote1 (ram s.sp)
  have hcfg : t1.cfg = s.cfg := by rw [frame1]
  obtain ⟨frame2, low⟩ := wrote_ram wrote2 (hcfg ▸ ram (down s.sp 1))
  obtain ⟨-, others, -⟩ := wrote2
  obtain ⟨-, ret⟩ := rtsPullsReturnAddress { t2 with sp := down s.sp 2, pc := w }
  refine ⟨_, _, call, rfl, ret, ?_⟩
  have hsp : up (down s.sp 2) 2 = s.sp := up_down_self s.sp (by decide)
  have hlow : memRead .pull1 (stackByte (up (down s.sp 2) 1)) { t2 with sp := down s.sp 2, pc := w } =
      byteMod (s.pc.toNat + 2) := by rw [up_down s.sp (by decide) (by decide)]; exact low _
  have hhigh : memRead .pull2 (stackByte s.sp) { t2 with sp := down s.sp 2, pc := w } =
      byteMod ((s.pc.toNat + 2) % 65536 / 256) := by
    exact (others _ _ (stackByte_ne_down s.sp (by decide) (by decide))).trans (high _)
  rw [hlow, hsp, hhigh, wordOf_bytes, addrMod_add, frame2, frame1]
  rfl

/-! ### A return after an exception entry (R205, R251, R255, R260) -/

/-- An entry onto RAM changes memory alone; the three bytes read back (R251). -/
theorem entryWritten_of_ram {s : State} (ram : StackIsRam s) (ret : Addr) (b4 : Bool) :
    entryWritten ret b4 s = { s with mem := (entryWritten ret b4 s).mem } ∧
    (∀ use, memRead use (stackByte (down s.sp 2)) (entryWritten ret b4 s) = statusByte s.cfg.bit5Pushed b4 s.p) ∧
    (∀ use, memRead use (stackByte (down s.sp 1)) (entryWritten ret b4 s) = loByte ret) ∧
    (∀ use, memRead use (stackByte s.sp) (entryWritten ret b4 s) = hiByte ret) := by
  have apart01 : stackByte s.sp ≠ stackByte (down s.sp 1) := stackByte_ne_down s.sp (by decide) (by decide)
  have apart02 : stackByte s.sp ≠ stackByte (down s.sp 2) := stackByte_ne_down s.sp (by decide) (by decide)
  have apart12 := stackByte_down_ne s.sp (j := 1) (k := 2) (by decide) (by decide)
  refine ⟨?frame, fun use => ?status, fun use => ?low, fun use => ?high⟩
  case frame =>
    unfold entryWritten
    rw [memWrite_ram _ (by simp only [memWrite_cfg]; exact ram _), memWrite_ram _ (by rw [memWrite_cfg]; exact ram _),
      memWrite_ram _ (ram _)]
    rfl
  case status => exact memRead_memWrite_same use _ (by simp only [memWrite_cfg]; exact ram _)
  case low =>
    rw [entryWritten, memRead_memWrite_other use _ _ apart12]
    exact memRead_memWrite_same use _ (by rw [memWrite_cfg]; exact ram _)
  case high =>
    rw [entryWritten, memRead_memWrite_other use _ _ apart02, memRead_memWrite_other use _ _ apart01]
    exact memRead_memWrite_same use _ (ram _)

/-- `RTI` where S, the flags and the three bytes that it pulls are known (R205). -/
theorem exec_rti_of_reads {s : State} {sp sp' v lo hi : Byte} {p : Flags} {pc : Addr} (hsp : up sp 3 = sp')
    (status : memRead .pull1 (stackByte (up sp 1)) s = v) (low : memRead .pull2 (stackByte (up sp 2)) s = lo)
    (high : memRead .pull3 (stackByte (up sp 3)) s = hi) :
    exec .rti { s with sp := sp, p := p, pc := pc } =
      .next { s with p := unpacked s.cfg v p, sp := sp', pc := wordOf lo hi } := by
  rw [← status, ← low, ← high, ← hsp]
  exact (rtiRestoresStatusAndPc _).2

/-- `RTI` undoes an exception entry: S, the flags and PC come back, B as the bit 4 that was pushed. -/
theorem exec_rti_enter {s : State} (ram : StackIsRam s) (ret vec : Addr) (b4 : Bool) :
    exec .rti (enter ret vec b4 s) = .next { s with
      mem := (enter ret vec b4 s).mem
      p := { s.p with b := if s.cfg.bModel = .stored then b4 else s.p.b }
      pc := ret } := by
  obtain ⟨frame, status, low, high⟩ := entryWritten_of_ram ram ret b4
  rw [enter_eq]
  generalize entryWritten ret b4 s = e at frame status low high ⊢
  have hsp1 : up (down s.sp 3) 1 = down s.sp 2 := up_down s.sp (by decide) (by decide)
  have hsp2 : up (down s.sp 3) 2 = down s.sp 1 := up_down s.sp (by decide) (by decide)
  have hsp3 : up (down s.sp 3) 3 = s.sp := up_down_self s.sp (by decide)
  rw [exec_rti_of_reads hsp3 (by rw [hsp1, status]) (by rw [hsp2, low]) (by rw [hsp3, high]), unpacked_statusByte,
    ← word_eq_wordOf, word_loByte_hiByte, frame]

/-- Settles O57: `BRK` is an entry on the state in which B is written, with the address two bytes on and bit 4 = 1. -/
theorem brkThenRtiReturns : Obligations.BrkThenRtiReturns := by
  intro s ram
  refine ⟨_, _, exec_brk s, exec_rti_enter (s := setFlags (breakB s.cfg s.p) s) ram _ _ _, ?_⟩
  have hpc : s.pc + 2 = pcAfter s 2 := pc_add_eq_pcAfter s 2
  rw [hpc, breakB_eq]
  by_cases stored : s.cfg.bModel = .stored <;> simp [setFlags, stored]

/-- An interrupt's sequence and `RTI` give back the state of the boundary (R251, R260). -/
theorem exec_rti_enterInterrupt {s : State} (ram : StackIsRam s) (vec : Addr) :
    exec .rti (enterInterrupt vec s) = .next { s with
      mem := (enterInterrupt vec s).mem
      p := { s.p with b := if s.cfg.bModel = .stored then false else s.p.b } } :=
  exec_rti_enter ram s.pc vec false

/-- Settles O58: the step takes the NMI, or the IRQ where none is pending; `exec_rti_enterInterrupt` on the state it enters from. -/
theorem interruptThenRtiReturns : Obligations.InterruptThenRtiReturns := by
  intro s ram hreset hevent
  cases hnmi : (beginStep s).nmiPending with
  | true =>
    exact ⟨_, _, step_of_nmiPending hreset hnmi,
      exec_rti_enterInterrupt (s := { beginStep s with nmiPending := false }) ram _, rfl⟩
  | false =>
    rw [hnmi] at hevent
    obtain ⟨hline, hi⟩ := hevent.resolve_left Bool.false_ne_true
    refine ⟨_, _, step_of_irq hreset hnmi hline hi, exec_rti_enterInterrupt ram _, ?_⟩
    rw [← hnmi]
    rfl

end Sys2Proof.Proofs
end

section
/-! SUPPORT. The rotations as rotations of the nine bits C ## A (45_shift_rotate.md R172, R173). -/

namespace Sys2Proof.Proofs

open Sys2Proof.Machine Sys2Proof.Claims

/-! ### Nine bits as a number -/

/-- A nine-bit number rotated to the left by one place. -/
def rotateNine (n : Nat) : Nat := if n < 256 then 2 * n else 2 * n - 511

theorem rotateNine_lt {n : Nat} (h : n < 512) : rotateNine n < 512 := by
  unfold rotateNine; split <;> omega

/-- After `k` places the low `9 - k` bits stand above the others. -/
theorem rotateNine_iterate {n : Nat} (h : n < 512) {k : Nat} (hk : k ≤ 9) :
    rotateNine^[k] n = n % 2 ^ (9 - k) * 2 ^ k + n / 2 ^ (9 - k) := by
  induction k with
  | zero => simp only [Function.iterate_zero, id]; omega
  | succ k ih =>
    rw [Function.iterate_succ_apply', ih (Nat.le_of_succ_le hk), rotateNine]
    have : k < 9 := hk
    interval_cases k <;> split <;> omega

theorem rotateNine_iterate_nine {n : Nat} (h : n < 512) : rotateNine^[9] n = n := by
  rw [rotateNine_iterate h (Nat.le_refl 9)]; omega

/-- C ## A as a number. -/
def nineBits (s : State) : Nat := 256 * num s.p.c + s.a.toNat

theorem nineBits_lt (s : State) : nineBits s < 512 := by
  have := num_le_one s.p.c
  have := s.a.isLt
  unfold nineBits; omega

/-- `s` with `n` in C ## A, N and Z of `f`, and PC advanced by `k`. -/
def withNineBits (n : Nat) (f : Flags) (k : Nat) (s : State) : State :=
  { s with a := byteMod n, p := { s.p with n := f.n, z := f.z, c := decide (256 ≤ n) }, pc := pcAfter s k }

theorem withNineBits_self (s : State) : withNineBits (nineBits s) s.p 0 s = s := by
  have := s.a.isLt
  have ha : byteMod (nineBits s) = s.a := by
    apply BitVec.eq_of_toNat_eq
    simp only [byteMod, nineBits, BitVec.toNat_ofNat]; omega
  have hc : decide (256 ≤ nineBits s) = s.p.c := by
    unfold nineBits
    cases s.p.c with
    | false => rw [num, if_neg Bool.false_ne_true, decide_eq_false_iff_not]; omega
    | true => rw [num, if_pos rfl, decide_eq_true_iff]; omega
  have hpc : pcAfter s 0 = s.pc := by simp only [pcAfter, addrMod]; bv_omega
  rw [withNineBits, ha, hc, hpc]

/-! ### `ROL A` and `ROR A` on them -/

theorem byteMod_toNat (n : Nat) : (byteMod n).toNat = n % 256 := by
  simp only [byteMod, BitVec.toNat_ofNat]; omega

theorem num_carry {n : Nat} (h : n < 512) : num (decide (256 ≤ n)) = n / 256 := by
  by_cases carry : 256 ≤ n
  · rw [decide_eq_true carry, num, if_pos rfl]; omega
  · rw [decide_eq_false carry, num, if_neg Bool.false_ne_true]; omega

/-- `ROL A` rotates C ## A to the left by one place. -/
theorem exec_rolA_withNineBits {n : Nat} (h : n < 512) (f : Flags) (k : Nat) (s : State) :
    ∃ g, exec .rolA (withNineBits n f k s) = .next (withNineBits (rotateNine n) g (k + 1) s) := by
  have result : byteMod (2 * (byteMod n).toNat + num (decide (256 ≤ n))) = byteMod (rotateNine n) := by
    rw [num_carry h, byteMod_toNat, rotateNine]
    split
    next low => rw [Nat.mod_eq_of_lt low, Nat.div_eq_of_lt low, Nat.add_zero]
    next high =>
      have carried : n / 256 = 1 := by omega
      have odd : 2 * (n % 256) + 1 = 2 * n - 511 := by omega
      rw [carried, odd]
  have carry : bit (byteMod n) 7 = decide (256 ≤ rotateNine n) := by
    refine decide_eq_decide.2 ?_
    simp only [byteMod, rotateNine, BitVec.toNat_ofNat]
    split <;> omega
  have hpc : pcAfter (withNineBits n f k s) 1 = pcAfter s (k + 1) := addrMod_add _ _
  obtain ⟨-, run⟩ := (rolRorRotate 0 0).1.1 (withNineBits n f k s)
  rw [hpc] at run
  simp only [withNineBits, result, carry] at run
  exact ⟨withNZ (byteMod (rotateNine n)) f, run⟩

/-- `ROR A` rotates C ## A back. -/
theorem exec_rorA_withNineBits {n : Nat} (h : n < 512) (f : Flags) (k : Nat) (s : State) :
    ∃ g, exec .rorA (withNineBits (rotateNine n) f k s) = .next (withNineBits n g (k + 1) s) := by
  have result : byteMod ((byteMod (rotateNine n)).toNat / 2 + 128 * num (decide (256 ≤ rotateNine n))) = byteMod n := by
    apply BitVec.eq_of_toNat_eq
    simp only [num_carry (rotateNine_lt h)]
    simp only [byteMod, rotateNine, BitVec.toNat_ofNat]
    split <;> omega
  have carry : bit (byteMod (rotateNine n)) 0 = decide (256 ≤ n) := by
    refine decide_eq_decide.2 ?_
    simp only [byteMod, rotateNine, BitVec.toNat_ofNat]
    split <;> omega
  have hpc : pcAfter (withNineBits (rotateNine n) f k s) 1 = pcAfter s (k + 1) := addrMod_add _ _
  obtain ⟨-, run⟩ := (rolRorRotate 0 0).2.1 (withNineBits (rotateNine n) f k s)
  rw [hpc] at run
  simp only [withNineBits, result, carry] at run
  exact ⟨withNZ (byteMod n) f, run⟩

/-! ### Runs of them -/

theorem execAll_cons {i : Instr} {s t : State} (rest : List Instr) (h : exec i s = .next t) :
    execAll (i :: rest) s = execAll rest t := by
  rw [execAll, h]

/-- `j` times `ROL A` rotate by `j` places. -/
theorem execAll_rolA {n : Nat} (h : n < 512) (f : Flags) (j k : Nat) (s : State) :
    ∃ g, execAll (List.replicate j .rolA) (withNineBits n f k s) =
      .next (withNineBits (rotateNine^[j] n) g (k + j) s) := by
  induction j generalizing n f k with
  | zero => exact ⟨f, rfl⟩
  | succ j ih =>
    obtain ⟨g, run⟩ := exec_rolA_withNineBits h f k s
    obtain ⟨g', runs⟩ := ih (rotateNine_lt h) g (k + 1)
    exact ⟨g', by rw [List.replicate_succ, execAll_cons _ run, runs, Function.iterate_succ_apply, Nat.add_right_comm,
      Nat.add_assoc]⟩

/-- A run that ends with the nine bits of the start. -/
theorem withNineBits_nineBits (g : Flags) (k : Nat) (s : State) :
    withNineBits (nineBits s) g k s = { s with p := { s.p with n := g.n, z := g.z }, pc := pcAfter s k } := by
  have self := withNineBits_self s
  have ha : byteMod (nineBits s) = s.a := congrArg State.a self
  have hc : decide (256 ≤ nineBits s) = s.p.c := congrArg (fun t => t.p.c) self
  rw [withNineBits, ha, hc]

/-- Settles O32: nine places are the whole way round the nine bits, and one place back undoes one place. -/
theorem nineRotationsRestore : Obligations.NineRotationsRestore := by
  intro s
  constructor
  · obtain ⟨g, runs⟩ := execAll_rolA (nineBits_lt s) s.p 9 0 s
    rw [withNineBits_self, rotateNine_iterate_nine (nineBits_lt s), withNineBits_nineBits] at runs
    exact ⟨g, runs⟩
  · obtain ⟨g, left⟩ := exec_rolA_withNineBits (nineBits_lt s) s.p 0 s
    obtain ⟨g', right⟩ := exec_rorA_withNineBits (nineBits_lt s) g 1 s
    rw [withNineBits_self] at left
    rw [withNineBits_nineBits] at right
    exact ⟨g', by rw [execAll_cons _ left, execAll_cons _ right, execAll]⟩

end Sys2Proof.Proofs
end

section
/-! SUPPORT. `ADC` and `SBC` (47_arithmetic.md): what each row runs, and the results by numbers. -/

namespace Sys2Proof.Proofs

open Sys2Proof.Machine Sys2Proof.Claims

/-! ### What the rows run -/

theorem adcForms_run (b : Byte) (w : Addr) : ∀ q ∈ adcForms b w, RunsOnOperand addWithCarry q := by
  simp only [adcForms, List.forall_mem_cons]
  refine ⟨?indX, ?zp, ?imm, ?abs, ?indY, ?ind, ?zpX, ?absY, ?absX, List.forall_mem_nil _⟩ <;>
    exact ⟨rfl, rfl, fun _ => rfl⟩

theorem sbcForms_run (b : Byte) (w : Addr) : ∀ q ∈ sbcForms b w, RunsOnOperand subtractWithCarry q := by
  simp only [sbcForms, List.forall_mem_cons]
  refine ⟨?indX, ?zp, ?imm, ?abs, ?indY, ?ind, ?zpX, ?absY, ?absX, List.forall_mem_nil _⟩ <;>
    exact ⟨rfl, rfl, fun _ => rfl⟩

/-- `s` with the result of an addition or subtraction in A and the flags, and PC advanced by `len`. -/
def withArith (o : ArithResult) (len : Nat) (s : State) : State :=
  { s with a := o.r, p := withNZ o.r { s.p with c := o.c, v := o.v }, pc := pcAfter s len }

theorem exec_adcForm {b : Byte} {w : Addr} {q : Form} (hq : q ∈ adcForms b w) (s : State) :
    exec q.instr s = .next (withArith (adcResult (operandByte q.operand s) s) q.len s) := by
  have row := adcForms_run b w q hq
  rw [row.exec, addWithCarry_eq, row.len, setNZ_eq_withNZ, pc_add_eq_pcAfter, withArith]

theorem exec_sbcForm {b : Byte} {w : Addr} {q : Form} (hq : q ∈ sbcForms b w) (s : State) :
    exec q.instr s = .next (withArith (sbcResult (operandByte q.operand s) s) q.len s) := by
  have row := sbcForms_run b w q hq
  rw [row.exec, subtractWithCarry_eq, row.len, setNZ_eq_withNZ, pc_add_eq_pcAfter, withArith]

theorem adcResult_binary {s : State} (h : s.p.d = false) (m : Byte) : adcResult m s = addBin s.a m s.p.c := by
  rw [adcResult, h, if_neg Bool.false_ne_true]

theorem adcResult_decimal {s : State} (h : s.p.d = true) (m : Byte) :
    adcResult m s = addDec s.draw s.a m s.p.c := by
  rw [adcResult, if_pos h]

theorem sbcResult_binary {s : State} (h : s.p.d = false) (m : Byte) : sbcResult m s = subBin s.a m s.p.c := by
  rw [sbcResult, h, if_neg Bool.false_ne_true]

theorem sbcResult_decimal {s : State} (h : s.p.d = true) (m : Byte) :
    sbcResult m s = subDec s.draw s.a m s.p.c := by
  rw [sbcResult, if_pos h]

/-! ### Binary mode (R191, R195) -/

theorem sign_eq_decide (v : Byte) : v[7] = decide (128 ≤ v.toNat) := BitVec.msb_eq_decide v

theorem ofNat_eq_byteMod (n : Nat) : BitVec.ofNat 8 n = byteMod n := by
  apply BitVec.eq_of_toNat_eq
  rw [byteMod_toNat, BitVec.toNat_ofNat]

/-- Two bytes of one sign whose sum has the other sign: the signed sum has left the range of a byte. -/
theorem overflow_eq_decide (a m : Byte) {c : Nat} (hc : c ≤ 1) :
    (a[7] == m[7] && (byteMod (a.toNat + m.toNat + c))[7] != a[7]) =
      decide (signed a + signed m + c < -128 ∨ 127 < signed a + signed m + c) := by
  have := a.isLt
  have := m.isLt
  simp only [sign_eq_decide, byteMod_toNat]
  rw [Bool.eq_iff_iff]
  simp only [Bool.and_eq_true, beq_iff_eq, bne_iff_ne, ne_eq, decide_eq_decide, decide_eq_true_iff]
  unfold signed
  split <;> split <;> omega

theorem addBin_eq (a m : Byte) (c : Bool) : addBin a m c =
    { r := byteMod (a.toNat + m.toNat + num c), c := decide (256 ≤ a.toNat + m.toNat + num c)
      v := decide (signed a + signed m + num c < -128 ∨ 127 < signed a + signed m + num c) } := by
  rw [← overflow_eq_decide a m (num_le_one c)]
  simp only [addBin, ← num_eq_toNat, ofNat_eq_byteMod]

/-- A subtraction is the addition of the complement (R195). -/
theorem subBin_eq_addBin (a m : Byte) (c : Bool) : subBin a m c = addBin a (byteMod (255 - m.toNat)) c := by
  have := m.isLt
  have := num_le_one c
  have complement : (byteMod (255 - m.toNat)).toNat = 255 - m.toNat := by rw [byteMod_toNat]; omega
  have sign : (byteMod (255 - m.toNat))[7] = !m[7] := by rw [← not_eq_byteMod, BitVec.getElem_not]
  have result : BitVec.ofInt 8 ((a.toNat : Int) - m.toNat - (1 - num c)) =
      BitVec.ofNat 8 (a.toNat + (255 - m.toNat) + num c) := by
    apply BitVec.eq_of_toNat_eq
    rw [BitVec.toNat_ofInt, BitVec.toNat_ofNat]; omega
  have carry : decide ((0 : Int) ≤ (a.toNat : Int) - m.toNat - (1 - num c)) =
      decide (256 ≤ a.toNat + (255 - m.toNat) + num c) := decide_eq_decide.2 (by omega)
  have differ : (a[7] != m[7]) = (a[7] == !m[7]) := by cases a[7] <;> cases m[7] <;> rfl
  simp only [subBin, addBin, ← num_eq_toNat, complement, sign, result, carry, differ]

theorem signed_complement (m : Byte) : signed (byteMod (255 - m.toNat)) = -signed m - 1 := by
  have := m.isLt
  have complement : (byteMod (255 - m.toNat)).toNat = 255 - m.toNat := by rw [byteMod_toNat]; omega
  simp only [signed, complement]
  split <;> split <;> omega

theorem subBin_eq (a m : Byte) (c : Bool) : subBin a m c =
    { r := byteMod (a.toNat + 255 + num c - m.toNat), c := decide (m.toNat + 1 ≤ a.toNat + num c)
      v := decide (signed a - signed m - (1 - num c) < -128 ∨ 127 < signed a - signed m - (1 - num c)) } := by
  have := m.isLt
  have complement : (byteMod (255 - m.toNat)).toNat = 255 - m.toNat := by rw [byteMod_toNat]; omega
  have sum : a.toNat + (255 - m.toNat) + num c = a.toNat + 255 + num c - m.toNat := by omega
  have carry : decide (256 ≤ a.toNat + 255 + num c - m.toNat) = decide (m.toNat + 1 ≤ a.toNat + num c) :=
    decide_eq_decide.2 (by omega)
  have difference : signed a + (-signed m - 1) + num c = signed a - signed m - (1 - num c) := by omega
  rw [subBin_eq_addBin, addBin_eq, complement, signed_complement, sum, carry, difference]

/-- Settles O37: with D = 0 each row leaves `addBin`, by numbers. -/
theorem adcBinary : Obligations.AdcBinary := by
  intro b w s hd q hq
  exact ⟨(adcForms_run b w q hq).opcode, by rw [exec_adcForm hq, adcResult_binary hd, addBin_eq, withArith]⟩

/-- Settles O39: with D = 0 each row leaves `subBin`, by numbers; `subBin` is `addBin` of the complement. -/
theorem sbcBinary : Obligations.SbcBinary := by
  refine ⟨fun b w s hd q hq => ?rows, subBin_eq_addBin⟩
  exact ⟨(sbcForms_run b w q hq).opcode, by rw [exec_sbcForm hq, sbcResult_binary hd, subBin_eq, withArith]⟩

/-! ### Decimal mode (R192, R193, R196, R197) -/

theorem validBcd_iff (b : Byte) : validBcd b = true ↔ IsBcd b := decide_eq_true_iff

theorem validBcd_and_iff (a m : Byte) : (validBcd a && validBcd m) = true ↔ IsBcd a ∧ IsBcd m := by
  rw [Bool.and_eq_true, validBcd_iff, validBcd_iff]

theorem bcd_eq_decimal (b : Byte) : bcd b = decimal b := by
  rw [bcd, decimal, Nat.mul_comm]

theorem toBcd_eq_decimalByte (n : Nat) : toBcd n = decimalByte n := by
  rw [toBcd, decimalByte, ofNat_eq_byteMod, Nat.mul_comm]

theorem addDec_valid (draw : Nat) {a m : Byte} (c : Bool) (ha : IsBcd a) (hm : IsBcd m) : addDec draw a m c =
    { r := decimalByte ((decimal a + decimal m + num c) % 100)
      c := decide (100 ≤ decimal a + decimal m + num c), v := Config.decV draw .add a m c } := by
  rw [addDec, if_pos ((validBcd_and_iff a m).2 ⟨ha, hm⟩)]
  simp only [bcd_eq_decimal, ← num_eq_toNat, toBcd_eq_decimalByte]

theorem subDec_valid (draw : Nat) {a m : Byte} (c : Bool) (ha : IsBcd a) (hm : IsBcd m) : subDec draw a m c =
    { r := decimalByte ((decimal a + 99 + num c - decimal m) % 100)
      c := decide (decimal m + 1 ≤ decimal a + num c), v := Config.decV draw .sub a m c } := by
  have bound : decimal m ≤ 99 := by
    obtain ⟨high, low⟩ := hm
    unfold decimal; omega
  have difference : (((decimal a : Int) - decimal m - (1 - num c)) % 100).toNat =
      (decimal a + 99 + num c - decimal m) % 100 := by omega
  have carry : decide ((0 : Int) ≤ (decimal a : Int) - decimal m - (1 - num c)) =
      decide (decimal m + 1 ≤ decimal a + num c) := decide_eq_decide.2 (by omega)
  rw [subDec, if_pos ((validBcd_and_iff a m).2 ⟨ha, hm⟩)]
  simp only [bcd_eq_decimal, ← num_eq_toNat, toBcd_eq_decimalByte, difference, carry]

/-- Settles O38: with D = 1 each row leaves `addDec`, here on valid operands. -/
theorem adcDecimal : Obligations.AdcDecimal := by
  intro b w s hd q hq ha hm
  exact ⟨Config.decV s.draw .add s.a (operandByte q.operand s) s.p.c, by
    rw [exec_adcForm hq, adcResult_decimal hd, addDec_valid s.draw s.p.c ha hm, withArith]⟩

/-- Settles O40: with D = 1 each row leaves `subDec`, here on valid operands. -/
theorem sbcDecimal : Obligations.SbcDecimal := by
  intro b w s hd q hq ha hm
  exact ⟨Config.decV s.draw .sub s.a (operandByte q.operand s) s.p.c, by
    rw [exec_sbcForm hq, sbcResult_decimal hd, subDec_valid s.draw s.p.c ha hm, withArith]⟩

theorem addDec_invalid (draw : Nat) {a m : Byte} (c : Bool) (h : ¬ (IsBcd a ∧ IsBcd m)) :
    addDec draw a m c = invalidBcd draw .add a m c := by
  rw [addDec, if_neg (mt (validBcd_and_iff a m).1 h)]

theorem subDec_invalid (draw : Nat) {a m : Byte} (c : Bool) (h : ¬ (IsBcd a ∧ IsBcd m)) :
    subDec draw a m c = invalidBcd draw .sub a m c := by
  rw [subDec, if_neg (mt (validBcd_and_iff a m).1 h)]

/-- Settles O41: with D = 1 a row leaves `addDec` or `subDec`, on an invalid operand a free result. -/
theorem decimalOnInvalidDigitsStillCompletes : Obligations.DecimalOnInvalidDigitsStillCompletes := by
  intro b w s hd q hq invalid
  have free (op : DecOp) (run : exec q.instr s =
      .next (withArith (invalidBcd s.draw op s.a (operandByte q.operand s) s.p.c) q.len s)) :
      ∃ (r : Byte) (c v : Bool),
        exec q.instr s = .next { s with a := r, p := withNZ r { s.p with c := c, v := v }, pc := pcAfter s q.len } :=
    ⟨_, _, _, run⟩
  obtain adc | sbc := List.mem_append.1 hq
  · exact free .add (by rw [exec_adcForm adc, adcResult_decimal hd, addDec_invalid s.draw s.p.c invalid])
  · exact free .sub (by rw [exec_sbcForm sbc, sbcResult_decimal hd, subDec_invalid s.draw s.p.c invalid])

end Sys2Proof.Proofs
end

section
/-! SUPPORT. The counts of cycles (70_reset_and_hazards.md R290 to R293). -/

namespace Sys2Proof.Proofs

open Sys2Proof.Machine Sys2Proof.Claims

/-! ### Pages (R292) -/

theorem otherPage_eq_decide (a b : Addr) : otherPage a b = decide (a.toNat / 256 ≠ b.toNat / 256) := by
  have high (w : Addr) : (hiByte w).toNat = w.toNat / 256 := by
    rw [hiByte, BitVec.extractLsb'_toNat, Nat.shiftRight_eq_div_pow]; omega
  rw [Bool.eq_iff_iff, otherPage, bne_iff_ne, ne_eq, ← BitVec.toNat_inj, high, high, decide_eq_true_iff]

/-- Indexing leaves the page of the base exactly when the sum of the low byte and the index carries. -/
theorem otherPage_add_zext16 (w : Addr) (i : Byte) :
    otherPage (w + zext16 i) w = decide (256 ≤ w.toNat % 256 + i.toNat) := by
  have := i.isLt
  have := w.isLt
  rw [otherPage_eq_decide, add_zext16_eq_addrMod, decide_eq_decide]
  simp only [addrMod, BitVec.toNat_ofNat]
  omega

/-! ### The parts of a count -/

theorem cycles_of_opcode {i : Instr} {op : Byte} (h : opcodeOf i = op) (assigned : isUnusedOpcode op = false) (s : State) :
    cycles i s = some (cycleTable.getD op.toNat 0 + indexCycles i s + branchCycles i s + decimalCycles i s + jumpCycles i) := by
  rw [cycles, baseCycles, h, assigned, if_neg Bool.false_ne_true, Option.map_some]

theorem cycles_of_unused {i : Instr} (h : i.mnemonic = .unused) (s : State) : cycles i s = none := by
  rw [cycles, baseCycles, isUnusedOpcode_opcodeOf, if_pos (decide_eq_true h), Option.map_none]

/-! ### Branches -/

/-- The cycle that a taken branch adds for its target's page. -/
def targetCycles (d : Byte) (s : State) : Nat := (otherPage (branchTarget d s.pc) (s.pc + 2)).toNat

theorem targetCycles_eq (d : Byte) (s : State) : 3 + targetCycles d s =
    if (BitVec.ofInt 16 ((s.pc.toNat : Int) + 2 + signed d) : Addr).toNat / 256 = (pcAfter s 2).toNat / 256 then 3 else 4 := by
  have hnext : s.pc + 2 = pcAfter s 2 := pc_add_eq_pcAfter s 2
  rw [targetCycles, otherPage_eq_decide, branchTarget_eq, hnext]
  split
  next same => rw [decide_eq_false (not_not_intro same)]; rfl
  next other => rw [decide_eq_true other]; rfl

theorem branchCycles_of_branchCondition {i : Instr} {d : Byte} {s : State} {taken : Bool}
    (conditional : ∀ d, i ≠ .bra d) (h : branchCondition i s = some (d, taken)) :
    branchCycles i s = if taken = false then 0 else 1 + targetCycles d s := by
  unfold branchCycles
  split
  next d => exact absurd rfl (conditional d)
  next => rw [h]; cases taken <;> rfl

/-- A conditional branch of the opcode `op` counts 2 when not taken, else 3 and the cycle of its target's page. -/
theorem cycles_of_branchCondition {i : Instr} {d : Byte} {s : State} {taken : Bool} (op : Byte)
    (row : opcodeOf i = op ∧ isUnusedOpcode op = false ∧ cycleTable.getD op.toNat 0 = 2)
    (others : indexCycles i s = 0 ∧ decimalCycles i s = 0 ∧ jumpCycles i = 0)
    (conditional : ∀ d, i ≠ .bra d) (h : branchCondition i s = some (d, taken)) :
    cycles i s = some (if taken = false then 2 else 3 + targetCycles d s) := by
  obtain ⟨opcode, assigned, count⟩ := row
  obtain ⟨index, decimal, jump⟩ := others
  rw [cycles_of_opcode opcode assigned, count, branchCycles_of_branchCondition conditional h, index, decimal, jump]
  cases taken with
  | false => rfl
  | true => exact congrArg some (Nat.add_assoc 2 1 _).symm

theorem branchForms_count (d : Byte) (s : State) : ∀ q ∈ branchForms d s.p,
    cycles q.2.1 s = some (if q.2.2 = false then 2 else 3 + targetCycles d s) := by
  simp only [branchForms, List.forall_mem_cons]
  refine ⟨?bcc, ?bcs, ?beq, ?bne, ?bmi, ?bpl, ?bvc, ?bvs, ?bra, List.forall_mem_nil _⟩
  case bcc => exact cycles_of_branchCondition 0x90 ⟨rfl, rfl, rfl⟩ ⟨rfl, rfl, rfl⟩ nofun rfl
  case bcs => exact cycles_of_branchCondition 0xB0 ⟨rfl, rfl, rfl⟩ ⟨rfl, rfl, rfl⟩ nofun rfl
  case beq => exact cycles_of_branchCondition 0xF0 ⟨rfl, rfl, rfl⟩ ⟨rfl, rfl, rfl⟩ nofun rfl
  case bne => exact cycles_of_branchCondition 0xD0 ⟨rfl, rfl, rfl⟩ ⟨rfl, rfl, rfl⟩ nofun rfl
  case bmi => exact cycles_of_branchCondition 0x30 ⟨rfl, rfl, rfl⟩ ⟨rfl, rfl, rfl⟩ nofun rfl
  case bpl => exact cycles_of_branchCondition 0x10 ⟨rfl, rfl, rfl⟩ ⟨rfl, rfl, rfl⟩ nofun rfl
  case bvc => exact cycles_of_branchCondition 0x50 ⟨rfl, rfl, rfl⟩ ⟨rfl, rfl, rfl⟩ nofun rfl
  case bvs => exact cycles_of_branchCondition 0x70 ⟨rfl, rfl, rfl⟩ ⟨rfl, rfl, rfl⟩ nofun rfl
  case bra => exact cycles_of_opcode (op := 0x80) rfl rfl s

/-! ### Instructions that read their operand -/

/-- The count of an address mode but for page crossing (R291). -/
def modeCycles (o : Operand) : Nat :=
  match o with
  | .imm _ => 2
  | .mem (.zp _) => 3
  | .mem (.indX _) => 6
  | .mem (.indY _) | .mem (.ind _) => 5
  | .mem _ => 4

/-- The cycle of page crossing (R292). -/
def crossingCycles (o : Operand) (s : State) : Nat :=
  match o with
  | .imm _ => 0
  | .mem m => (indexCrosses m s).toNat

theorem readCycles_eq (o : Operand) (s : State) : readCycles o s = modeCycles o + crossingCycles o s := by
  cases o with
  | imm _ => rfl
  | mem m =>
    cases m with
    | absX w => rw [readCycles, ← otherPage_add_zext16, num_eq_toNat]; rfl
    | absY w => rw [readCycles, ← otherPage_add_zext16, num_eq_toNat]; rfl
    | indY b => rw [readCycles, ← memReadPointer_eq_pageZeroPointer, ← otherPage_add_zext16, num_eq_toNat]; rfl
    | zp _ | zpX _ | zpY _ | abs _ | indX _ | ind _ => rfl

/-- The count of `i`, with the opcode `op` and the operand `o`, is that of the address mode, the cycle of page crossing, and
`extra` cycles. -/
structure CountsAsRead (extra : State → Nat) (op : Byte) (i : Instr) (o : Operand) : Prop where
  opcode : opcodeOf i = op
  assigned : isUnusedOpcode op = false
  count : cycleTable.getD op.toNat 0 = modeCycles o
  index (s : State) : indexCycles i s = crossingCycles o s
  branch (s : State) : branchCycles i s = 0
  decimal (s : State) : decimalCycles i s = extra s
  jump : jumpCycles i = 0

theorem CountsAsRead.cycles_eq {extra : State → Nat} {op : Byte} {i : Instr} {o : Operand}
    (h : CountsAsRead extra op i o) (s : State) : cycles i s = some (readCycles o s + extra s) := by
  rw [cycles_of_opcode h.opcode h.assigned, h.count, h.index, h.branch, h.decimal, h.jump, readCycles_eq]
  rfl

theorem readForms_count (b : Byte) (w : Addr) : ∀ q ∈ ldaForms b w ++ ldxForms b w ++ ldyForms b w ++ andForms b w ++
    oraForms b w ++ eorForms b w ++ cmpForms b w ++ cpxForms b w ++ cpyForms b w,
    CountsAsRead (fun _ => 0) q.opcode q.instr q.operand := by
  simp only [ldaForms, ldxForms, ldyForms, andForms, oraForms, eorForms, cmpForms, cpxForms, cpyForms,
    List.forall_mem_append, List.forall_mem_cons,
    List.not_mem_nil, IsEmpty.forall_iff, implies_true, and_true]
  and_intros
  all_goals exact ⟨rfl, rfl, rfl, fun _ => rfl, fun _ => rfl, fun _ => rfl, rfl⟩

theorem arithForms_count (b : Byte) (w : Addr) : ∀ q ∈ adcForms b w ++ sbcForms b w,
    CountsAsRead (fun s => num s.p.d) q.opcode q.instr q.operand := by
  simp only [adcForms, sbcForms, List.forall_mem_append, List.forall_mem_cons,
    List.not_mem_nil, IsEmpty.forall_iff, implies_true, and_true]
  and_intros
  all_goals exact ⟨rfl, rfl, rfl, fun _ => rfl, fun _ => rfl, fun s => (num_eq_toNat s.p.d).symm, rfl⟩

/-! ### The stated counts of a store and a jump -/

theorem cycles_staAbsX (w : Addr) (s : State) : cycles (.staAbsX w) s = some 5 :=
  cycles_of_opcode (op := 0x9D) rfl rfl s

theorem loByte_eq_ff (w : Addr) : (loByte w == 0xFF) = decide (w.toNat % 256 = 255) := by
  have low : (loByte w).toNat = w.toNat % 256 := by rw [loByte, BitVec.extractLsb'_toNat]; rfl
  rw [Bool.eq_iff_iff, beq_iff_eq, ← BitVec.toNat_inj, low, decide_eq_true_iff]
  rfl

theorem cycles_jmpInd (w : Addr) (s : State) :
    cycles (.jmpInd w) s = some (if w.toNat % 256 = 255 then 6 else 5) := by
  rw [cycles_of_opcode (op := 0x6C) rfl rfl, jumpCycles, loByte_eq_ff]
  split
  next last => rw [decide_eq_true last]; rfl
  next inside => rw [decide_eq_false inside]; rfl

/-- Settles O60. -/
theorem cyclesOfPagesAndBranches : Obligations.CyclesOfPagesAndBranches := by
  refine ⟨fun d s q hq => ?branches, fun b w s => ⟨fun q hq => ?reads, fun q hq => ?arith, ?store, ?jump⟩,
    fun s q hq => ?unused⟩
  case branches => rw [branchForms_count d s q hq, targetCycles_eq]
  case reads => exact (readForms_count b w q hq).cycles_eq s
  case arith => exact (arithForms_count b w q hq).cycles_eq s
  case store => exact cycles_staAbsX w s
  case jump => exact cycles_jmpInd w s
  case unused => exact cycles_of_unused (unusedForms_unused q hq).2 s

end Sys2Proof.Proofs
end
